-- ==== Sys2Proof/Word.lean ====
section
/-! DEFINITION. Bytes, the instants the part measures, and reading and writing one place of a fixed bank. -/

namespace Sys2Proof

/-- A byte of the control link (R145). -/
abbrev Byte := BitVec 8

/-- An instant or a length of time, counted in ticks of 1/135 µs.
Every period, band and line spacing of Tables 1.2 and 4.2 is a whole number of ticks. -/
abbrev Ticks := Nat

/-- The entry at place `i` of a bank, or `d` where the bank has no such place. -/
def look {α : Type} {n : Nat} (v : Vector α n) (i : Nat) (d : α) : α := v[i]?.getD d

/-- The bank with `x` at place `i`; a place the bank lacks is not written. -/
def put {α : Type} {n : Nat} (v : Vector α n) (i : Nat) (x : α) : Vector α n := v.setIfInBounds i x

/-- The bank with `f` applied at the places named in `ns`. -/
def alter {α : Type} {n : Nat} (v : Vector α n) (ns : List Nat) (f : α → α) : Vector α n :=
  v.mapIdx fun i x => if ns.contains i then f x else x

end Sys2Proof
end

