-- ==== Sys2Proof/Syntax.lean ====
section
/-! DEFINITION. The commands of the part: one constructor for each row of spec/opcode_table.json.
A request carries its tag and its payload fields as numbers, in the order its table gives; the codes of
TIMING are the rows themselves. An event of a line or a link carries the instant at which it falls where
the manual measures from it. -/

namespace Sys2Proof

/-- Y, Cb and Cr (Table 0.3). -/
structure Colour where
  y : Nat
  cb : Nat
  cr : Nat
  deriving DecidableEq, Repr

/-- A rectangle in the order of Table 9.2. -/
structure Rect where
  x : Nat
  y : Nat
  w : Nat
  h : Nat
  deriving DecidableEq, Repr

/-- The pixels of a frame: address `1920 * row + column` and colour, for the pixels that are not black. -/
abbrev Picture := List (Nat × Colour)

/-- Payload of Input Setup (Table 1.4). -/
structure InputSetupFields where
  input : Nat
  enable : Nat
  ring : Nat
  k : Nat
  l : Nat
  subst : Nat
  still : Nat
  colour : Colour
  deriving DecidableEq, Repr

/-- Payload of Window Stage (Table 5.3). -/
structure WindowStageFields where
  window : Nat
  source : Nat
  index : Nat
  tourCount : Nat
  entries : List (Nat × Nat)
  dwell : Nat
  cropMode : Nat
  crop : Rect
  dest : Rect
  opacity : Nat
  border : Nat
  borderColour : Colour
  fillColour : Colour
  transition : Nat
  count : Nat
  delay : Nat
  deriving DecidableEq, Repr

/-- Payload of Scene Stage (Table 5.4). -/
structure SceneStageFields where
  scene : Nat
  background : Colour
  count : Nat
  windows : List Nat
  deriving DecidableEq, Repr

/-- Payload of Port Setup (Table 8.3). -/
structure PortSetupFields where
  port : Nat
  enable : Nat
  depth : Nat
  range : Nat
  protectA : Nat
  protectB : Nat
  action : Nat
  index : Nat
  restart : Nat
  deriving DecidableEq, Repr

/-- The two override lines. -/
inductive OverrideLine where
  | a
  | b
  deriving DecidableEq, Repr

/-- The commands. -/
inductive Instr where
  -- requests of the control link
  | inputSetup (tag : Byte) (p : InputSetupFields)
  | inputReset (tag : Byte) (input : Nat)
  | inputQuery (tag : Byte) (input clear : Nat)
  | stillGrab (tag : Byte) (input still : Nat)
  | stillDrop (tag : Byte) (still : Nat)
  | storeQuery (tag : Byte) (view input : Nat)
  | windowBind (tag : Byte) (window scene : Nat)
  | windowUnbind (tag : Byte) (window : Nat)
  | windowStage (tag : Byte) (p : WindowStageFields)
  | windowFreeze (tag : Byte) (window freeze : Nat)
  | windowQuery (tag : Byte) (window : Nat)
  | sceneStage (tag : Byte) (p : SceneStageFields)
  | sceneTakeFrame (tag : Byte) (scene : Nat)
  | sceneTakeNow (tag : Byte) (scene : Nat)
  | sceneQuery (tag : Byte) (scene : Nat)
  | portSetup (tag : Byte) (p : PortSetupFields)
  | portAssignFrame (tag : Byte) (port scene : Nat)
  | portAssignNow (tag : Byte) (port scene : Nat)
  | portHold (tag : Byte) (port : Nat)
  | portResume (tag : Byte) (port : Nat)
  | portQuery (tag : Byte) (port : Nat)
  | timingSetup (tag : Byte) (rate source input : Nat)
  | eventEnable (tag : Byte) (enables masks : List Nat)
  | eventAck (tag : Byte) (event inst : Nat)
  | deviceQuery (tag : Byte) (clear : Nat)
  | deviceReset (tag : Byte)
  | unknownKind (tag kind : Byte) (payload : List Byte)
  -- the part-wide resets
  | resetLineAssert
  | resetLineDeassert (t : Ticks)
  | deviceResetExecute (t : Ticks)
  -- the panel
  | overrideAssert (line : OverrideLine)
  | overrideDeassert (line : OverrideLine)
  -- the input links
  | frameStart (input : Fin 16) (t : Ticks) (width height : Nat) (progressive : Bool)
  | frameEnd (input : Fin 16) (t : Ticks) (flagged : Bool) (picture : Picture)
  | lossOfSignal (input : Fin 16) (t : Ticks)
  | missingFrameTimerExpiry (input : Fin 16)
  | stillGrabComplete (input : Fin 16) (t : Ticks) (picture : Picture)
  | grabTimeout (input : Fin 16)
  | inputResetComplete (input : Fin 16)
  -- the output frame
  | outputFrameBoundary
  | outputLineStart
  | timingSetupApply
  | sceneTakeApply (scene : Fin 16)
  | portAssignComplete (port : Fin 12)
  | freezeOrderOn (window : Fin 64)
  | freezeOrderOff (window : Fin 64)
  | deadFramesEnd (window : Fin 64)
  | mixEnd (window : Fin 64)
  | tourExpiry (window : Fin 64)
  -- the time base
  | referencePulse (t : Ticks)
  | referenceTimeout
  | lockPointMidway (input : Fin 16)
  | holdoverExpiry
  -- the control link
  | byteReceived (t : Ticks) (b : Byte)
  | gapTimerExpiry
  | transmitStart
  | transmitComplete (t : Ticks)
  deriving DecidableEq, Repr

end Sys2Proof
end

