-- ==== Sys2Proof/Decode.lean ====
section
/-! DEFINITION. The command a word spells by the bits of spec/opcode_table.json. No row of that table gives bits,
so no word spells a command: the part has no instruction words (the frames of the control link are read in
Sys2Proof/Machine/Frames.lean). -/

namespace Sys2Proof

/-- The command that an `nbits`-bit word spells: none, for every row's "fields" is empty. -/
def decodeTableWord (_nbits _w : Nat) : Option Instr := none

end Sys2Proof
end

