-- ==== Sys2Proof/Config.lean ====
section
/-! DEFINITION. What the part fixes in number, and the one value the manual leaves open. -/

namespace Sys2Proof.Config

/-- Video input links and capture units (Table 0.1). -/
abbrev inputs : Nat := 16
/-- Output ports (Table 0.1). -/
abbrev ports : Nat := 12
/-- Frame slots (Table 0.1). -/
abbrev slots : Nat := 96
/-- Still entries (R32). -/
abbrev stills : Nat := 16
/-- Scene records (R79). -/
abbrev scenes : Nat := 16
/-- Window records (R73). -/
abbrev windows : Nat := 64
/-- Places of the reply queue (R150). -/
abbrev replyPlaces : Nat := 24
/-- Frames the receive queue holds (R149). -/
abbrev receiveFrames : Nat := 4
/-- Entries of the pending request table (R153). -/
abbrev tableEntries : Nat := 16
/-- Timeout count of an accepted Still Grab (R34). -/
abbrev grabTimeout : Nat := 120
/-- Raster columns (Section 7). -/
abbrev columns : Nat := 1920
/-- Raster lines (R62). -/
abbrev lines : Nat := 1080

/-- Ticks in `n` microseconds. -/
abbrev us (n : Nat) : Ticks := 135 * n

/-- The missing-frame timer, 50 ms (R6). -/
abbrev missingFrame : Ticks := us 50000
/-- The gap timer, 10 ms (R147). -/
abbrev gap : Ticks := us 10000

/-- FREE VALUE: the period HOLDOVER runs at when no lock point was ever measured (R66 (3) names none).
It is applied to a fresh number each time; log entry 5. -/
opaque unmeasuredPeriod : Nat → Nat

end Sys2Proof.Config
end

