-- ==== Sys2Proof/Machine/State.lean ====
section
/-! DEFINITION. Everything the manual says the part holds, as plain data, and the part as a reset leaves it. -/

namespace Sys2Proof.Machine

/-- Why the part stops. It never does: every event the manual lists leaves it in a next state, so the type
has no reason in it. -/
inductive Fault where
  deriving DecidableEq, Repr

/-- Why the model gives no meaning. -/
inductive Refusal where
  /-- Raised by a row of the opcode table that has no meaning yet. Safe: nothing is claimed of it. -/
  | notModelled (mnemonic : String)
  deriving DecidableEq, Repr

/-- Black, 64, 512, 512 (R17). -/
abbrev black : Colour := ⟨64, 512, 512⟩

/-! ### Capture units (Section 1) -/

/-- Input states (Table 1.1). -/
inductive InputState where
  | off | searching | qualifying | locked | suspect | unsupported
  deriving DecidableEq, Repr

/-- Rate classes (Table 1.2). -/
inductive RateClass where
  | r24 | r25 | r30 | r50 | r60
  deriving DecidableEq, Repr

/-- A format (R4). -/
structure Format where
  width : Nat
  height : Nat
  rate : RateClass
  progressive : Bool
  deriving DecidableEq, Repr

/-- The frame in progress: its format, with no rate class when its interval gave none, and its store flag. -/
structure FrameInProgress where
  width : Nat
  height : Nat
  rate : Option RateClass
  progressive : Bool
  stored : Bool
  deriving DecidableEq, Repr

/-- Substitute kinds (R17). -/
inductive SubstKind where
  | black | fill | pattern | still
  deriving DecidableEq, Repr

/-- One capture unit (Table 1.1). The timer holds the instant it expires. `midway` is the model's own: the
midway instant still to come, and the half interval it stands for (R64). -/
structure Input where
  state : InputState
  counted : Option Format
  count : Nat
  timer : Option Ticks
  lastStart : Option Ticks
  frame : Option FrameInProgress
  framesStored : Nat
  framesBad : Nat
  lockLosses : Nat
  sequence : Nat
  ringLength : Nat
  k : Nat
  l : Nat
  substKind : SubstKind
  substStill : Nat
  substColour : Colour
  midway : Option (Ticks × Ticks)
  deriving DecidableEq, Repr

/-- Table 1.1, "After reset". -/
def Input.reset : Input :=
  { state := .off, counted := none, count := 0, timer := none, lastStart := none, frame := none,
    framesStored := 0, framesBad := 0, lockLosses := 0, sequence := 0, ringLength := 3, k := 5, l := 3,
    substKind := .black, substStill := 0, substColour := Machine.black, midway := none }

/-! ### Frame store (Sections 2 and 3) -/

/-- Slot states (Table 2.2). -/
inductive SlotState where
  | free | empty | filling | complete | stale | still | retiring
  deriving DecidableEq, Repr

/-- The collection that holds a slot (Table 2.1). -/
inductive Owner where
  | none
  | input (i : Nat)
  | still (e : Nat)
  | grab (i : Nat)
  deriving DecidableEq, Repr

/-- One slot: its record (Table 2.1) and the pixels of its area of the frame store. -/
structure Slot where
  state : SlotState
  owner : Owner
  sequence : Nat
  format : Option Format
  claims : Nat
  pinned : Option Nat
  picture : Picture
  deriving DecidableEq, Repr

/-- Table 2.1, "After reset". -/
def Slot.reset : Slot :=
  { state := .free, owner := .none, sequence := 0, format := none, claims := 0, pinned := none, picture := [] }

/-- A ring in position order, its age list, newest first, and its fresh count (R27, R41). Empty when the
input is OFF. -/
structure Ring where
  slots : List Nat
  age : List Nat
  fresh : Nat
  deriving DecidableEq, Repr

/-- No ring. -/
def Ring.reset : Ring := { slots := [], age := [], fresh := 0 }

/-! ### Output time base (Section 4) -/

/-- Output rates (Table 4.2). -/
inductive Rate where
  | r50 | r5994 | r60
  deriving DecidableEq, Repr

/-- Lock sources (Table 4.1). -/
inductive LockSource where
  | free
  | reference
  | input (n : Nat)
  deriving DecidableEq, Repr

/-- Timing states (4.4). -/
inductive Timing where
  | freeRun | tracking | holdover
  deriving DecidableEq, Repr

/-- The reference record: the last pulse and the interval before it (R63). -/
structure Pulse where
  time : Ticks
  interval : Option Ticks
  deriving DecidableEq, Repr

/-- What steps (1) and (2) of R69 did for the boundary being taken: nothing to remember, a new rate put in force,
TRACKING entered with alignment, or HOLDOVER entered. -/
inductive Settled where
  | plain | newRate | align | held
  deriving DecidableEq, Repr

/-- The output time base (Table 4.1). `nextBoundary` is none while alignment waits for a lock point (R66 (1)).
The last five fields are the model's own: presence of REFERENCE as its events leave it (R63); the instant the
frame in progress began; the boundary after next, where R66 (2) fixes it; what R69 (1) and (2) did; and how
many free values have been taken. -/
structure TimeBase where
  rate : Rate
  source : LockSource
  staged : Option (Rate × LockSource)
  timing : Timing
  measured : Option Ticks
  holdover : Nat
  nextBoundary : Option Ticks
  reference : Option Pulse
  refPresent : Bool
  frameBegan : Ticks
  afterNext : Option Ticks
  settled : Settled
  freeUses : Nat
  deriving DecidableEq, Repr

/-- Table 4.1, "After reset", for a reset that ends at `t`: the first boundary falls one nominal period at
rate 60, 2 250 000 ticks, later (R60). `uses` carries on the count of free values. -/
def TimeBase.reset (t : Ticks) (uses : Nat) : TimeBase :=
  { rate := .r60, source := .free, staged := none, timing := .freeRun, measured := none, holdover := 0,
    nextBoundary := some (t + 2250000), reference := none, refPresent := false, frameBegan := t,
    afterNext := none, settled := .plain, freeUses := uses }

/-! ### Scene tables (Sections 5 and 6) -/

/-- What a window shows: a shown source (Table 5.2). -/
inductive Shown where
  | input (i : Nat)
  | still (e : Nat)
  | fill
  | pattern
  deriving DecidableEq, Repr

/-- The source field (R75). -/
inductive Source where
  | plain (s : Shown)
  | tour
  deriving DecidableEq, Repr

/-- A tour entry (R76). -/
inductive TourEntry where
  | input (i : Nat)
  | still (e : Nat)
  deriving DecidableEq, Repr

/-- A crop (Table 5.1). -/
inductive Crop where
  | whole
  | rect (r : Rect)
  deriving DecidableEq, Repr

/-- The transition field with its count (R77). -/
inductive Transition where
  | cut
  | fill (deadFrames : Nat)
  | mix (frames : Nat)
  deriving DecidableEq, Repr

/-- The configuration fields of a copy (Table 5.1). -/
structure WindowConfig where
  source : Source
  tourList : List TourEntry
  dwell : Nat
  crop : Crop
  dest : Rect
  opacity : Nat
  border : Nat
  borderColour : Colour
  fillColour : Colour
  transition : Transition
  delay : Nat
  deriving DecidableEq, Repr

/-- Table 5.1, "Default" (R78). -/
def WindowConfig.reset : WindowConfig :=
  { source := .plain .fill, tourList := [], dwell := 10, crop := .whole, dest := ⟨0, 0, 1920, 1080⟩,
    opacity := 256, border := 0, borderColour := black, fillColour := black, transition := .cut, delay := 0 }

/-- The transition state (Table 5.2). -/
inductive TransState where
  | none
  | dead (remaining : Nat) (next : Shown)
  | mix (k n : Nat) (old new : Shown)
  deriving DecidableEq, Repr

/-- The freeze order (Table 6.1). -/
inductive FreezeOrder where
  | none | on | off
  deriving DecidableEq, Repr

/-- A window record (R73) with its live-only fields (Table 5.2), its tour period and freeze order (Table 6.1). -/
structure Window where
  binding : Option Nat
  staged : WindowConfig
  live : WindowConfig
  shown : Shown
  trans : TransState
  tourPosition : Nat
  tourRemaining : Nat
  frozen : Bool
  tourPeriod : Nat
  freezeOrder : FreezeOrder
  deriving DecidableEq, Repr

/-- An unbound window in its default record (R78, R115). -/
def Window.reset : Window :=
  { binding := none, staged := WindowConfig.reset, live := WindowConfig.reset, shown := .fill, trans := .none,
    tourPosition := 0, tourRemaining := 0, frozen := false, tourPeriod := 0, freezeOrder := .none }

/-- A scene record (R79). -/
structure Scene where
  stagedBackground : Colour
  liveBackground : Colour
  stagedList : List Nat
  liveList : List Nat
  takePending : Bool
  deriving DecidableEq, Repr

/-- A scene after reset (R79). -/
def Scene.reset : Scene :=
  { stagedBackground := black, liveBackground := black, stagedList := [], liveList := [], takePending := false }

/-! ### Compositor (Sections 3 and 7) -/

/-- What a claim record holds for one source: a slot, or a choice that needs none (R50). -/
inductive Choice where
  | slot (n : Nat)
  | black
  | fill
  | colour (c : Colour)
  | pattern
  deriving DecidableEq, Repr

/-- The claim record of one source of one window (Table 3.1). -/
structure ClaimEntry where
  window : Nat
  source : Shown
  choice : Choice
  deriving DecidableEq, Repr

/-- The compositor: its claim record, the scenes composed in the output frame in progress (R141), and for each
port the slot claimed for a protection action STILL (R129, R135). -/
structure Compositor where
  record : List ClaimEntry
  composed : List Nat
  portStill : Vector (Option Nat) 12
  deriving DecidableEq, Repr

/-- The compositor after reset (R50, R116). -/
def Compositor.reset : Compositor :=
  { record := [], composed := [], portStill := Vector.replicate 12 none }

/-! ### Output ports (Section 8) -/

/-- Port states (Table 8.1). -/
inductive PortState where
  | disabled | starting | normal | protected_ | resuming
  deriving DecidableEq, Repr

/-- Protection actions (Table 8.3). -/
inductive Action where
  | black | still | scene
  deriving DecidableEq, Repr

/-- The picture in progress (Table 8.1). -/
inductive Showing where
  | black
  | scene (k : Nat)
  | still (e : Nat)
  deriving DecidableEq, Repr

/-- The line a port's link carries: its number and its components as sent (R62, R128). -/
structure SentLine where
  number : Nat
  pixels : List Colour
  deriving DecidableEq, Repr

/-- A port (Table 8.1). `index` is kept with the action as last written (Table 8.4). `line` is the model's own:
the line whose start time came last. -/
structure Port where
  state : PortState
  enable : Bool
  depth10 : Bool
  full : Bool
  protectA : Bool
  protectB : Bool
  action : Action
  index : Nat
  auto : Bool
  assigned : Option Nat
  causeA : Bool
  causeB : Bool
  hold : Bool
  showing : Showing
  line : Option SentLine
  deriving DecidableEq, Repr

/-- Table 8.1, "After reset". The table gives the action BLACK no index; Port Query then reports 0, the model's choice
(log entry 34). -/
def Port.reset : Port :=
  { state := .disabled, enable := false, depth10 := true, full := false, protectA := false, protectB := false,
    action := .black, index := 0, auto := false, assigned := none, causeA := false, causeB := false,
    hold := false, showing := .black, line := none }

/-! ### Event unit (Section 10) -/

/-- The cause of a RESTART (Table 10.2). -/
inductive RestartCause where
  | line | request
  deriving DecidableEq, Repr

/-- A raised event: its kind, its instance and its data (Table 10.2). -/
inductive Event where
  | restart (cause : RestartCause)
  | portProtect (port : Nat) (a b hold : Bool)
  | inputLost (input losses : Nat)
  | timing (t : Timing)
  | inputState (input : Nat) (state : InputState) (counted : Option Format)
  | linkError
  | tourStep (window position : Nat) (source : Shown)
  deriving DecidableEq, Repr

/-- An entry of the pending set (R159). -/
structure Entry where
  event : Event
  count : Nat
  reported : Bool
  deriving DecidableEq, Repr

/-- The event unit: the pending set in order, the enables of kinds 1 to 7 and the masks of levels 0 to 3. -/
structure EventUnit where
  entries : List Entry
  enables : Vector Bool 7
  masks : Vector Bool 4
  deriving DecidableEq, Repr

/-- Every kind enabled but TOUR STEP, no level masked (R164), with the entries given. -/
def EventUnit.reset (entries : List Entry) : EventUnit :=
  { entries, enables := (Vector.replicate 7 true).setIfInBounds 6 false, masks := Vector.replicate 4 false }

/-! ### Link interface (Section 9) -/

/-- Status codes (Table 9.6). -/
inductive Status where
  | done | unknownKind | badLength | range | state | noSlots | busy | owner | causeActive | sourceLost
  | timeout | aborted
  deriving DecidableEq, Repr

/-- A complete request frame (Table 9.1). -/
structure Frame where
  tag : Byte
  kind : Byte
  payload : List Byte
  deriving DecidableEq, Repr

/-- The receiver: its state and the bytes of the frame so far (Table 9.8). -/
inductive Receiver where
  | hunting
  | length
  | body (n : Nat) (got : List Byte)
  | check (n : Nat) (body : List Byte) (high : Option Byte)
  deriving DecidableEq, Repr

/-- A reply (Table 9.3). -/
structure Reply where
  tag : Byte
  kind : Byte
  status : Status
  data : List Byte
  deriving DecidableEq, Repr

/-- The target of a pending request, with the take F of a take and the timeout count of a grab (R153, Table 6.1). -/
inductive PendingTarget where
  | take (scene f : Nat)
  | assign (port : Nat) (scene : Option Nat)
  | grab (input still left : Nat)
  | reset (input : Nat)
  deriving DecidableEq, Repr

/-- An entry of the pending request table (R153). -/
structure PendingRequest where
  tag : Byte
  target : PendingTarget
  deriving DecidableEq, Repr

/-- A frame being sent. -/
inductive Outgoing where
  | reply (r : Reply)
  | report (e : Entry)
  deriving DecidableEq, Repr

/-- The link interface. The gap timer holds the instant it expires. `replies` are the queued replies, oldest
first; `reserved` counts the reserved places; the rest of the 24 are free (R150). The transmitter is idle when
`sending` is none. `resetting` is set while a Device Reset is in progress (R156). -/
structure Link where
  receiver : Receiver
  gap : Option Ticks
  queue : List Frame
  replies : List Reply
  reserved : Nat
  sending : Option Outgoing
  table : List PendingRequest
  errors : Nat
  resetting : Bool
  deriving DecidableEq, Repr

/-- The link interface after reset (R157). -/
def Link.reset : Link :=
  { receiver := .hunting, gap := none, queue := [], replies := [], reserved := 0, sending := none, table := [],
    errors := 0, resetting := false }

/-! ### The part -/

/-- The whole part, the levels of its lines, and the commands that wait. `now` is the instant of the latest
event. `nextLine` is the first line of the output frame in progress whose start time has not yet come; 1080
stands for none. -/
structure State where
  now : Ticks
  inputs : Vector Input 16
  slots : Vector Slot 96
  rings : Vector Ring 16
  stills : Vector (Option Nat) 16
  reservations : Vector (Option Nat) 16
  pins : Vector (Option Nat) 64
  time : TimeBase
  scenes : Vector Scene 16
  windows : Vector Window 64
  comp : Compositor
  ports : Vector Port 12
  nextLine : Nat
  link : Link
  events : EventUnit
  overrideA : Bool
  overrideB : Bool
  resetLine : Bool
  pending : List Instr
  deriving DecidableEq, Repr

/-- The part right after the RESET line is deasserted at instant 0, with no override line asserted (R157, R164). -/
def State.reset : State :=
  { now := 0
    inputs := Vector.replicate 16 Input.reset
    slots := Vector.replicate 96 Slot.reset
    rings := Vector.replicate 16 Ring.reset
    stills := Vector.replicate 16 none
    reservations := Vector.replicate 16 none
    pins := Vector.replicate 64 none
    time := TimeBase.reset 0 0
    scenes := Vector.replicate 16 Scene.reset
    windows := Vector.replicate 64 Window.reset
    comp := Compositor.reset
    ports := Vector.replicate 12 Port.reset
    nextLine := 1080
    link := Link.reset
    events := EventUnit.reset [{ event := .restart .line, count := 1, reported := false }]
    overrideA := false
    overrideB := false
    resetLine := false
    pending := [] }

end Sys2Proof.Machine
end

