-- ==== Sys2Proof/Machine/Ops.lean ====
section
/-! DEFINITION. The named operations over the part's banks: one reader and one writer for each, the instant,
the pixel memory of a slot, and the numbers of Tables 1.2 and 4.2. -/

namespace Sys2Proof.Machine

/-- What executing a command answers. -/
abbrev Result := Host.Outcome State Fault Refusal

/-! ### One reader and one writer for each bank -/

/-- Capture unit `i`. -/
def State.input (s : State) (i : Nat) : Input := look s.inputs i Input.reset
/-- Write capture unit `i`. -/
def State.setInput (s : State) (i : Nat) (x : Input) : State := { s with inputs := put s.inputs i x }
/-- Slot `n`. -/
def State.slot (s : State) (n : Nat) : Slot := look s.slots n Slot.reset
/-- Write slot `n`. -/
def State.setSlot (s : State) (n : Nat) (x : Slot) : State := { s with slots := put s.slots n x }
/-- Apply `f` to the slots named in `ns`. -/
def State.alterSlots (s : State) (ns : List Nat) (f : Slot → Slot) : State := { s with slots := alter s.slots ns f }
/-- The ring of input `i`. -/
def State.ring (s : State) (i : Nat) : Ring := look s.rings i Ring.reset
/-- Write the ring of input `i`. -/
def State.setRing (s : State) (i : Nat) (x : Ring) : State := { s with rings := put s.rings i x }
/-- The slot still entry `e` holds. -/
def State.still (s : State) (e : Nat) : Option Nat := look s.stills e none
/-- Write still entry `e`. -/
def State.setStill (s : State) (e : Nat) (x : Option Nat) : State := { s with stills := put s.stills e x }
/-- The grab reservation of input `i`. -/
def State.reservation (s : State) (i : Nat) : Option Nat := look s.reservations i none
/-- Write the grab reservation of input `i`. -/
def State.setReservation (s : State) (i : Nat) (x : Option Nat) : State :=
  { s with reservations := put s.reservations i x }
/-- The window pin of window `w`. -/
def State.pin (s : State) (w : Nat) : Option Nat := look s.pins w none
/-- Write the window pin of window `w`. -/
def State.setPin (s : State) (w : Nat) (x : Option Nat) : State := { s with pins := put s.pins w x }
/-- Scene `k`. -/
def State.scene (s : State) (k : Nat) : Scene := look s.scenes k Scene.reset
/-- Write scene `k`. -/
def State.setScene (s : State) (k : Nat) (x : Scene) : State := { s with scenes := put s.scenes k x }
/-- Window `w`. -/
def State.window (s : State) (w : Nat) : Window := look s.windows w Window.reset
/-- Write window `w`. -/
def State.setWindow (s : State) (w : Nat) (x : Window) : State := { s with windows := put s.windows w x }
/-- Port `p`. -/
def State.port (s : State) (p : Nat) : Port := look s.ports p Port.reset
/-- Write port `p`. -/
def State.setPort (s : State) (p : Nat) (x : Port) : State := { s with ports := put s.ports p x }
/-- Write the time base. -/
def State.setTime (s : State) (x : TimeBase) : State := { s with time := x }
/-- Write the compositor. -/
def State.setComp (s : State) (x : Compositor) : State := { s with comp := x }
/-- Write the link interface. -/
def State.setLink (s : State) (x : Link) : State := { s with link := x }
/-- Write the event unit. -/
def State.setEvents (s : State) (x : EventUnit) : State := { s with events := x }

/-- The instant of the latest event: an event at `t` moves it on, never back (log entry 3). -/
def State.reach (s : State) (t : Ticks) : State := { s with now := max s.now t }

/-- While the RESET line is asserted no event is taken (R157). -/
def whenRunning (s : State) (f : State → State) : Result :=
  .next (if s.resetLine then s else f s)

/-! ### Pixels of a slot -/

/-- The pixel at an address; an address not listed is black (log entry 4). -/
def pixelAt : Picture → Nat → Colour
  | [], _ => black
  | (a, c) :: rest, x => if a = x then c else pixelAt rest x

/-- The picture with one pixel written, in its canonical form. -/
def writePixel : Picture → Nat → Colour → Picture
  | [], x, c => if c = black then [] else [(x, c)]
  | (a, b) :: rest, x, c =>
    if x < a then (if c = black then (a, b) :: rest else (x, c) :: (a, b) :: rest)
    else if x = a then (if c = black then rest else (x, c) :: rest)
    else (a, b) :: writePixel rest x c

/-- The picture a frame of `w` × `h` leaves in the slot it was written into. The lines as delivered are written
from the start of the slot; positions outside the frame are not part of it (2.1). -/
def writeFrame (w h : Nat) (delivered : Picture) : Picture :=
  (delivered.filter fun x => x.1 % 1920 < w && x.1 / 1920 < h).foldl (fun p x => writePixel p x.1 x.2) []

/-! ### Tables 1.2 and 4.2 -/

/-- The instant lies in a band whose inclusive bounds are in microseconds. -/
def inBand (lo hi : Nat) (t : Ticks) : Bool := Config.us lo ≤ t && t ≤ Config.us hi

/-- The rate class of an interval (Table 1.2). -/
def rateClass (t : Ticks) : Option RateClass :=
  if inBand 41250 42150 t then some .r24
  else if inBand 39600 40400 t then some .r25
  else if inBand 33000 33700 t then some .r30
  else if inBand 19800 20200 t then some .r50
  else if inBand 16500 16850 t then some .r60
  else none

/-- The number of a rate class. -/
def RateClass.number : RateClass → Nat
  | .r24 => 24
  | .r25 => 25
  | .r30 => 30
  | .r50 => 50
  | .r60 => 60

/-- A supported format (R4). -/
def Format.supported (f : Format) : Bool :=
  f.progressive && 640 ≤ f.width && f.width ≤ 1920 && 360 ≤ f.height && f.height ≤ 1080

/-- The nominal period (Table 4.2): 20 ms, 1001/60 ms, 1000/60 ms. -/
def Rate.period : Rate → Ticks
  | .r50 => 2700000
  | .r5994 => 2252250
  | .r60 => 2250000

/-- The factor F (Table 4.2). -/
def Rate.factor : Rate → Nat
  | .r50 => 50
  | .r5994 => 60
  | .r60 => 60

/-- The shortest output frame (R62). -/
def Rate.shortest : Rate → Ticks
  | .r50 => Config.us 19800
  | .r5994 => Config.us 16500
  | .r60 => Config.us 16500

/-- The longest period an accepted band of Tables 1.2 and 4.2 allows at this rate. -/
def Rate.longest : Rate → Ticks
  | .r50 => Config.us 20200
  | .r5994 => Config.us 16850
  | .r60 => Config.us 16850

/-- The interval lies in the reference band of the rate (Table 4.2). -/
def Rate.inReferenceBand (r : Rate) (t : Ticks) : Bool :=
  match r with
  | .r50 => inBand 19994 20006 t
  | .r5994 => inBand 16678 16689 t
  | .r60 => inBand 16662 16672 t

/-- The rate class is compatible with the output rate (Table 4.2). -/
def Rate.compatible (r : Rate) (c : RateClass) : Bool :=
  match r, c with
  | .r50, .r25 | .r50, .r50 => true
  | .r5994, .r30 | .r5994, .r60 => true
  | .r60, .r30 | .r60, .r60 => true
  | _, _ => false

/-- F of the rate in force (R61). -/
def State.factor (s : State) : Nat := s.time.rate.factor

end Sys2Proof.Machine
end

