-- ==== Sys2Proof/Machine/Flags.lean ====
section
/-! DEFINITION. The event unit: kinds, levels and clearing classes (Table 10.1), the recording of a raise (R159),
what the unit offers for report (R161), and the ALERT output (R163). -/

namespace Sys2Proof.Machine

/-- The kind code (Table 10.1). -/
def Event.code : Event → Nat
  | .restart _ => 1
  | .portProtect .. => 2
  | .inputLost .. => 3
  | .timing _ => 4
  | .inputState .. => 5
  | .linkError => 6
  | .tourStep .. => 7

/-- The level (Table 10.1). -/
def Event.level : Event → Nat
  | .restart _ => 0
  | .portProtect .. => 0
  | .inputLost .. => 1
  | .timing _ => 1
  | .inputState .. => 2
  | .linkError => 2
  | .tourStep .. => 3

/-- The entry is held until acknowledged (Table 10.1). -/
def Event.held : Event → Bool
  | .portProtect .. => true
  | .inputLost .. => true
  | .restart _ | .timing _ | .inputState .. | .linkError | .tourStep .. => false

/-- The instance, H'FF for a kind without one (R158). -/
def Event.number : Event → Nat
  | .portProtect p .. => p
  | .inputLost i _ => i
  | .inputState i .. => i
  | .tourStep w .. => w
  | .restart _ | .timing _ | .linkError => 255

/-- Two events belong to one entry: same kind, same instance (R159). -/
def Event.sameEntry (a b : Event) : Bool := a.code == b.code && a.number == b.number

/-- The pending set after a raise of an enabled kind (R159). -/
def recordEntry (es : List Entry) (e : Event) : List Entry :=
  if es.any (fun x => x.event.sameEntry e) then
    es.map fun x => if x.event.sameEntry e then { x with event := e, count := min (x.count + 1) 65535 } else x
  else
    es.takeWhile (fun x => x.event.level ≤ e.level) ++ [{ event := e, count := 1, reported := false }]
      ++ es.dropWhile (fun x => x.event.level ≤ e.level)

/-- The kind with this code is enabled (R160). -/
def EventUnit.enabled (u : EventUnit) (code : Nat) : Bool := look u.enables (code - 1) false

/-- The level is masked (R160). -/
def EventUnit.masked (u : EventUnit) (level : Nat) : Bool := look u.masks level false

/-- The event unit after a raise (R159): recorded if the kind is enabled. -/
def EventUnit.raised (u : EventUnit) (e : Event) : EventUnit :=
  if u.enabled e.code then { u with entries := recordEntry u.entries e } else u

/-- A block raises an event into the event unit (R159). -/
def raise (e : Event) (s : State) : State := s.setEvents (s.events.raised e)

/-- The entry the event unit offers: the first unmasked one not yet reported (R161). -/
def EventUnit.offer (u : EventUnit) : Option Entry :=
  u.entries.find? fun e => !u.masked e.event.level && !e.reported

/-- The pending set after the offered entry has been taken (R161). -/
def EventUnit.taken (u : EventUnit) (e : Entry) : EventUnit :=
  if e.event.held then
    { u with entries := u.entries.map fun x => if x.event.sameEntry e.event then { x with reported := true } else x }
  else
    { u with entries := u.entries.filter fun x => !x.event.sameEntry e.event }

/-- The ALERT output (R163): asserted while a level-0 entry is in the set and level 0 is not masked. It is not
stored apart; the set and the mask give it. -/
def State.alert (s : State) : Bool := s.events.entries.any (fun e => e.event.level == 0) && !s.events.masked 0

end Sys2Proof.Machine
end

