-- ==== Sys2Proof/Machine/Operands.lean ====
section
/-! DEFINITION. The fields of requests and of reply data: their encoding in bytes (Table 9.2), their ranges, and
the values that coded fields stand for. -/

namespace Sys2Proof.Machine

/-! ### Fields as bytes (Table 9.2) -/

/-- A field of width 1. -/
def byte (n : Nat) : Byte := BitVec.ofNat 8 n
/-- A field of width 2, high byte first. -/
def word (n : Nat) : List Byte := [byte (n / 256), byte n]
/-- A field of width 4, high byte first. -/
def word4 (n : Nat) : List Byte := [byte (n / 16777216), byte (n / 65536), byte (n / 256), byte n]
/-- A flag. -/
def flag (b : Bool) : Byte := if b then 1 else 0
/-- A colour. -/
def colourBytes (c : Colour) : List Byte := word c.y ++ word c.cb ++ word c.cr
/-- A rectangle. -/
def rectBytes (r : Rect) : List Byte := word r.x ++ word r.y ++ word r.w ++ word r.h
/-- A list laid out in room for `room` entries of one byte, H'FF beyond its length. -/
def listBytes (room : Nat) (l : List Nat) : List Byte :=
  (l.take room).map byte ++ List.replicate (room - l.length) 0xFF
/-- A number, or H'FF for none. -/
def optByte (o : Option Nat) : Byte :=
  match o with
  | some n => byte n
  | none => 0xFF

/-- The byte at an offset of a payload, as a number. -/
def at8 (p : List Byte) (k : Nat) : Nat := (p[k]?.getD 0).toNat
/-- The two bytes at an offset, high byte first. -/
def at16 (p : List Byte) (k : Nat) : Nat := 256 * at8 p k + at8 p (k + 1)
/-- The colour at an offset. -/
def atColour (p : List Byte) (k : Nat) : Colour := ⟨at16 p k, at16 p (k + 2), at16 p (k + 4)⟩
/-- The rectangle at an offset. -/
def atRect (p : List Byte) (k : Nat) : Rect := ⟨at16 p k, at16 p (k + 2), at16 p (k + 4), at16 p (k + 6)⟩

/-! ### Ranges -/

/-- Inclusive range. -/
def within (lo hi n : Nat) : Bool := lo ≤ n && n ≤ hi
/-- Each component 0–1023. -/
def colourOk (c : Colour) : Bool := c.y ≤ 1023 && c.cb ≤ 1023 && c.cr ≤ 1023
/-- x 0–1919, y 0–1079, w 16–1920, h 16–1080. -/
def rectOk (r : Rect) : Bool := r.x ≤ 1919 && r.y ≤ 1079 && within 16 1920 r.w && within 16 1080 r.h

/-- The ranges of Table 1.4 (R18 (1)). -/
def inputSetupOk (p : InputSetupFields) : Bool :=
  p.input ≤ 15 && p.enable ≤ 1 && within 3 8 p.ring && within 2 15 p.k && within 1 15 p.l && p.subst ≤ 3
    && p.still ≤ 15 && colourOk p.colour

/-- The ranges of Table 5.3 among the fields it says are checked (R84 (1)). -/
def windowStageOk (p : WindowStageFields) : Bool :=
  p.window ≤ 63 && p.source ≤ 4 && p.index ≤ 15 && p.tourCount ≤ 8 && (p.source != 4 || 1 ≤ p.tourCount)
    && (p.entries.take p.tourCount).all (fun e => e.1 ≤ 1 && e.2 ≤ 15)
    && within 1 600 p.dwell && p.cropMode ≤ 1 && (p.cropMode != 1 || rectOk p.crop) && rectOk p.dest
    && p.border ≤ 15 && colourOk p.borderColour && colourOk p.fillColour && p.transition ≤ 2
    && (p.transition != 1 || within 1 63 p.count) && (p.transition != 2 || within 2 255 p.count) && p.delay ≤ 6

/-- The ranges of Table 5.4 (R87 (1)). -/
def sceneStageOk (p : SceneStageFields) : Bool :=
  p.scene ≤ 15 && colourOk p.background && p.count ≤ 8 && (p.windows.take p.count).all (· ≤ 63)
    && decide (p.windows.take p.count).Nodup

/-- The ranges of Table 8.3 (R131). -/
def portSetupOk (p : PortSetupFields) : Bool :=
  p.port ≤ 11 && [p.enable, p.depth, p.range, p.protectA, p.protectB, p.restart].all (· ≤ 1) && p.action ≤ 2
    && p.index ≤ 15

/-! ### Coded fields -/

/-- SUBST (Table 1.4). -/
def substOf : Nat → SubstKind
  | 0 => .black
  | 1 => .fill
  | 2 => .pattern
  | _ => .still

/-- SUBST as reported (Table 1.5). -/
def SubstKind.code : SubstKind → Nat
  | .black => 0
  | .fill => 1
  | .pattern => 2
  | .still => 3

/-- STATE (Table 1.5). -/
def InputState.code : InputState → Nat
  | .off => 0
  | .searching => 1
  | .qualifying => 2
  | .locked => 3
  | .suspect => 4
  | .unsupported => 5

/-- WIDTH, HEIGHT, RATE and SCAN of a counted format (Table 1.5). -/
def formatBytes : Option Format → List Byte
  | none => word 0 ++ word 0 ++ [0, 0]
  | some f => word f.width ++ word f.height ++ [byte f.rate.number, if f.progressive then 1 else 2]

/-- STATE of a slot (Table 2.8). -/
def SlotState.code : SlotState → Nat
  | .free => 0
  | .empty => 1
  | .filling => 2
  | .complete => 3
  | .stale => 4
  | .still => 5
  | .retiring => 6

/-- RATE (Table 4.4). -/
def rateOf : Nat → Rate
  | 0 => .r50
  | 1 => .r5994
  | _ => .r60

/-- RATE as reported (Table 9.7). -/
def Rate.code : Rate → Nat
  | .r50 => 0
  | .r5994 => 1
  | .r60 => 2

/-- SOURCE and INPUT (Table 4.4). -/
def lockSourceOf (source input : Nat) : LockSource :=
  match source with
  | 0 => .free
  | 1 => .reference
  | _ => .input input

/-- SOURCE and SOURCE INPUT as reported (Table 9.7). -/
def LockSource.bytes : LockSource → List Byte
  | .free => [0, 0]
  | .reference => [1, 0]
  | .input n => [2, byte n]

/-- TIMING (Table 9.7). -/
def Timing.code : Timing → Nat
  | .freeRun => 0
  | .tracking => 1
  | .holdover => 2

/-- SOURCE and INDEX of Window Stage, with no number for FILL, PATTERN and TOUR (R85). -/
def sourceOf (source index : Nat) : Source :=
  match source with
  | 0 => .plain (.input index)
  | 1 => .plain (.still index)
  | 2 => .plain .fill
  | 3 => .plain .pattern
  | _ => .tour

/-- A tour entry from KIND and INDEX (Table 5.3). -/
def tourEntryOf (e : Nat × Nat) : TourEntry := if e.1 = 0 then .input e.2 else .still e.2

/-- TRANSITION and COUNT (Table 5.3), the count of CUT held as none (R85). -/
def transitionOf (transition count : Nat) : Transition :=
  match transition with
  | 0 => .cut
  | 1 => .fill count
  | _ => .mix count

/-- The staged copy an accepted Window Stage writes (R85). -/
def stagedConfig (p : WindowStageFields) : WindowConfig :=
  { source := sourceOf p.source p.index
    tourList := (p.entries.take p.tourCount).map tourEntryOf
    dwell := p.dwell
    crop := if p.cropMode = 1 then .rect p.crop else .whole
    dest := p.dest
    opacity := min p.opacity 256
    border := p.border
    borderColour := p.borderColour
    fillColour := p.fillColour
    transition := transitionOf p.transition p.count
    delay := p.delay }

/-- KIND and INDEX of a shown source (Table 5.5, SHOWN). -/
def Shown.bytes : Shown → List Byte
  | .input i => [0, byte i]
  | .still e => [1, byte e]
  | .fill => [2, 0]
  | .pattern => [3, 0]

/-- SOURCE and INDEX of a copy (Table 5.3; note 1 of Table 5.5). -/
def Source.bytes : Source → List Byte
  | .plain s => s.bytes
  | .tour => [4, 0]

/-- KIND and INDEX of a tour entry. -/
def TourEntry.bytes : TourEntry → List Byte
  | .input i => [0, byte i]
  | .still e => [1, byte e]

/-- The shown source a tour entry gives (R74). -/
def TourEntry.shown : TourEntry → Shown
  | .input i => .input i
  | .still e => .still e

/-- TRANSITION and COUNT of a copy. -/
def Transition.bytes : Transition → List Byte
  | .cut => [0, 0]
  | .fill n => [1, byte n]
  | .mix n => [2, byte n]

/-- CROP MODE and CROP of a copy, zeros for WHOLE. -/
def Crop.bytes : Crop → List Byte
  | .whole => List.replicate 9 0
  | .rect r => 1 :: rectBytes r

/-- The 56-byte image of a copy, SOURCE to DELAY (Table 5.5). -/
def WindowConfig.bytes (c : WindowConfig) : List Byte :=
  c.source.bytes ++ [byte c.tourList.length] ++ (c.tourList.take 8).flatMap TourEntry.bytes
    ++ List.replicate (2 * (8 - c.tourList.length)) 0xFF
    ++ word c.dwell ++ c.crop.bytes ++ rectBytes c.dest ++ word c.opacity ++ [byte c.border]
    ++ colourBytes c.borderColour ++ colourBytes c.fillColour ++ c.transition.bytes ++ [byte c.delay]

/-- STATE of a port (Table 8.4). -/
def PortState.code : PortState → Nat
  | .disabled => 0
  | .starting => 1
  | .normal => 2
  | .protected_ => 3
  | .resuming => 4

/-- ACTION (Table 8.3). -/
def actionOf : Nat → Action
  | 0 => .black
  | 1 => .still
  | _ => .scene

/-- ACTION as reported. -/
def Action.code : Action → Nat
  | .black => 0
  | .still => 1
  | .scene => 2

/-- SHOWING and SHOWING INDEX (Table 8.4). -/
def Showing.bytes : Showing → List Byte
  | .black => [0, 0]
  | .scene k => [1, byte k]
  | .still e => [2, byte e]

/-- A status code (Table 9.6). -/
def Status.code : Status → Nat
  | .done => 0
  | .unknownKind => 1
  | .badLength => 2
  | .range => 3
  | .state => 4
  | .noSlots => 5
  | .busy => 6
  | .owner => 7
  | .causeActive => 8
  | .sourceLost => 9
  | .timeout => 10
  | .aborted => 11

/-- SCENE of Port Assign, H'FF for none (R139). -/
def assignedOf (scene : Nat) : Option Nat := if scene = 255 then none else some scene

/-! ### Request payloads: Tables 1.4, 5.3, 5.4, 8.3, 10.3 -/

/-- The 13 bytes of Input Setup. -/
def encodeInputSetup (p : InputSetupFields) : List Byte :=
  [byte p.input, byte p.enable, byte p.ring, byte p.k, byte p.l, byte p.subst, byte p.still] ++ colourBytes p.colour

/-- The fields of Input Setup. -/
def parseInputSetup (b : List Byte) : InputSetupFields :=
  { input := at8 b 0, enable := at8 b 1, ring := at8 b 2, k := at8 b 3, l := at8 b 4, subst := at8 b 5,
    still := at8 b 6, colour := atColour b 7 }

/-- The 57 bytes of Window Stage. -/
def encodeWindowStage (p : WindowStageFields) : List Byte :=
  [byte p.window, byte p.source, byte p.index, byte p.tourCount]
    ++ p.entries.flatMap (fun e => [byte e.1, byte e.2])
    ++ word p.dwell ++ [byte p.cropMode] ++ rectBytes p.crop ++ rectBytes p.dest ++ word p.opacity ++ [byte p.border]
    ++ colourBytes p.borderColour ++ colourBytes p.fillColour ++ [byte p.transition, byte p.count, byte p.delay]

/-- The fields of Window Stage. -/
def parseWindowStage (b : List Byte) : WindowStageFields :=
  { window := at8 b 0, source := at8 b 1, index := at8 b 2, tourCount := at8 b 3,
    entries := (List.range 8).map fun k => (at8 b (4 + 2 * k), at8 b (5 + 2 * k)),
    dwell := at16 b 20, cropMode := at8 b 22, crop := atRect b 23, dest := atRect b 31, opacity := at16 b 39,
    border := at8 b 41, borderColour := atColour b 42, fillColour := atColour b 48, transition := at8 b 54,
    count := at8 b 55, delay := at8 b 56 }

/-- The 16 bytes of Scene Stage. -/
def encodeSceneStage (p : SceneStageFields) : List Byte :=
  [byte p.scene] ++ colourBytes p.background ++ [byte p.count] ++ p.windows.map byte

/-- The fields of Scene Stage. -/
def parseSceneStage (b : List Byte) : SceneStageFields :=
  { scene := at8 b 0, background := atColour b 1, count := at8 b 7,
    windows := (List.range 8).map fun k => at8 b (8 + k) }

/-- The nine bytes of Port Setup. -/
def encodePortSetup (p : PortSetupFields) : List Byte :=
  [p.port, p.enable, p.depth, p.range, p.protectA, p.protectB, p.action, p.index, p.restart].map byte

/-- The fields of Port Setup. -/
def parsePortSetup (b : List Byte) : PortSetupFields :=
  { port := at8 b 0, enable := at8 b 1, depth := at8 b 2, range := at8 b 3, protectA := at8 b 4,
    protectB := at8 b 5, action := at8 b 6, index := at8 b 7, restart := at8 b 8 }

/-- ENABLE and MASK of Event Enable: the seven and the four. -/
def parseEventEnable (b : List Byte) : List Nat × List Nat :=
  ((List.range 7).map fun k => at8 b k, (List.range 4).map fun k => at8 b (7 + k))

/-! ### Report data (Table 10.2) -/

/-- DATA of a report. -/
def Event.data : Event → List Byte
  | .restart .line => [0]
  | .restart .request => [1]
  | .portProtect _ a b h => [flag a, flag b, flag h]
  | .inputLost _ n => word n
  | .timing t => [byte t.code]
  | .inputState _ st f => byte st.code :: formatBytes f
  | .linkError => []
  | .tourStep _ q src => byte q :: src.bytes

end Sys2Proof.Machine
end

