-- ==== Sys2Proof/Machine/Replies.lean ====
section
/-! DEFINITION. The reply queue with its reservations (R150), the pending request table (R153, R154), and the
arrival of a request frame at the receive queue (R149). -/

namespace Sys2Proof.Machine

/-- Free places of the reply queue (R150). -/
def Link.freePlaces (l : Link) : Nat := Config.replyPlaces - (l.reserved + l.replies.length)

/-- Dispatch reserves one place (R150). -/
def reservePlace (s : State) : State := s.setLink { s.link with reserved := s.link.reserved + 1 }

/-- A reply is queued in its reserved place (R150). -/
def queueReply (r : Reply) (s : State) : State :=
  s.setLink { s.link with replies := s.link.replies ++ [r], reserved := s.link.reserved - 1 }

/-- Answer a dispatched request at once, with data (R151). -/
def answerData (tag kind : Byte) (data : List Byte) (s : State) : State :=
  queueReply { tag, kind, status := .done, data } s

/-- Answer a dispatched request at once, without data (R151). -/
def answer (tag kind : Byte) (status : Status) (s : State) : State :=
  queueReply { tag, kind, status, data := [] } s

/-- The kind byte of a pending request (Table 9.5). -/
def PendingTarget.kind : PendingTarget → Byte
  | .take .. => 0x29
  | .assign .. => 0x31
  | .grab .. => 0x18
  | .reset .. => 0x11

/-- The table has 16 entries in use (R153). -/
def State.tableFull (s : State) : Bool := Config.tableEntries ≤ s.link.table.length

/-- A pending request with this target exists. -/
def State.hasPending (s : State) (p : PendingTarget → Bool) : Bool := s.link.table.any fun e => p e.target

/-- The target is a Still Grab from input `i`. -/
def PendingTarget.isGrabOf (i : Nat) : PendingTarget → Bool
  | .grab j _ _ => j == i
  | .take .. | .assign .. | .reset .. => false

/-- The target is a Still Grab into still entry `e`. -/
def PendingTarget.isGrabInto (e : Nat) : PendingTarget → Bool
  | .grab _ d _ => d == e
  | .take .. | .assign .. | .reset .. => false

/-- The target is an Input Reset of input `i`. -/
def PendingTarget.isResetOf (i : Nat) : PendingTarget → Bool
  | .reset j => j == i
  | .take .. | .assign .. | .grab .. => false

/-- The target is a take of scene `k`. -/
def PendingTarget.isTakeOf (k : Nat) : PendingTarget → Bool
  | .take j _ => j == k
  | .assign .. | .grab .. | .reset .. => false

/-- The target is an assign of port `p`. -/
def PendingTarget.isAssignOf (p : Nat) : PendingTarget → Bool
  | .assign q _ => q == p
  | .take .. | .grab .. | .reset .. => false

/-- A request enters the table at its acceptance, after those accepted before it (R153). -/
def enterTable (tag : Byte) (t : PendingTarget) (s : State) : State :=
  s.setLink { s.link with table := s.link.table ++ [{ tag, target := t }] }

/-- The reply of an ended request: the entry's tag and the status signalled (R154). -/
def PendingRequest.reply (e : PendingRequest) (status : Status) : Reply :=
  { tag := e.tag, kind := e.target.kind, status, data := [] }

/-- Every entry to which `f` gives a status ends with it: the entries leave the table and their replies are
queued in their reserved places in the order of acceptance, which is the order of the table (R154). -/
def endPending (f : PendingTarget → Option Status) (s : State) : State :=
  let ended := s.link.table.filterMap fun e => (f e.target).map e.reply
  s.setLink { s.link with
    table := s.link.table.filter fun e => (f e.target).isNone
    replies := s.link.replies ++ ended
    reserved := s.link.reserved - ended.length }

/-- End the entries that `p` picks with one status (R154). -/
def endWhere (p : PendingTarget → Bool) (status : Status) (s : State) : State :=
  endPending (fun t => if p t then some status else none) s

/-- LINK ERROR state: a discard or an overrun adds 1 to the counter, saturating (R149). -/
def Link.countError (l : Link) : Link := { l with errors := min (l.errors + 1) 65535 }

end Sys2Proof.Machine
end

