-- ==== Sys2Proof/Machine/Store.lean ====
section
/-! DEFINITION. The frame store controller's shared operations (Sections 2 and 3): the collections, the writer,
grabs, pins, the marking of a ring stale, and the release of a ring. -/

namespace Sys2Proof.Machine

/-- All slot numbers. -/
def slotNumbers : List Nat := List.range Config.slots
/-- All window numbers. -/
def windowNumbers : List Nat := List.range Config.windows

/-! ### Slot records -/

/-- The record of a slot that joins the free pool (R23 (2), (3)). -/
def Slot.toFree (x : Slot) : Slot := { x with state := .free, owner := .none, sequence := 0, format := none }
/-- The record of a slot that becomes EMPTY in a ring or a reservation. -/
def Slot.toEmpty (o : Owner) (x : Slot) : Slot := { x with state := .empty, owner := o, sequence := 0, format := none }
/-- The record of a slot chosen by the writer (R42). -/
def Slot.toFilling (i : Nat) (x : Slot) : Slot :=
  { x with state := .filling, owner := .input i, sequence := 0, format := none }
/-- The record of a slot that joins the retiring set; it keeps its claims, sequence and format (R30). -/
def Slot.toRetiring (x : Slot) : Slot := { x with state := .retiring, owner := .none, pinned := none }

/-- The free pool, in increasing number (R25). -/
def State.freeSlots (s : State) : List Nat := slotNumbers.filter fun n => (s.slot n).state == .free
/-- The retiring set (R30). -/
def State.retiringSlots (s : State) : List Nat := slotNumbers.filter fun n => (s.slot n).state == .retiring
/-- The slot is held by a claim or a pin (R26). -/
def Slot.isHeld (x : Slot) : Bool := x.claims != 0 || x.pinned.isSome

/-- A claim adds 1 to the claims field, saturating at 32 (R26). -/
def addClaim (n : Nat) (s : State) : State :=
  s.setSlot n { s.slot n with claims := min ((s.slot n).claims + 1) 32 }

/-- M′: the ring's slots that are not pinned (R46). -/
def State.unpinned (s : State) (i : Nat) : Nat :=
  ((s.ring i).slots.filter fun n => (s.slot n).pinned.isNone).length

/-! ### Rings and the age list -/

/-- The ring of `m` lowest-numbered FREE slots that an enabled input is given (R27). -/
def allocateRing (i m : Nat) (s : State) : State :=
  let got := s.freeSlots.take m
  (s.alterSlots got (Slot.toEmpty (.input i))).setRing i { slots := got, age := [], fresh := 0 }

/-- A slot enters the age list at its head (R41). -/
def Ring.enter (r : Ring) (n : Nat) : Ring := { r with age := n :: r.age, fresh := r.fresh + 1 }

/-- A slot leaves the age list; the fresh count follows if it was one of the fresh entries (R41). -/
def Ring.leave (r : Ring) (n : Nat) : Ring :=
  { r with age := r.age.filter (· != n), fresh := if (r.age.take r.fresh).contains n then r.fresh - 1 else r.fresh }

/-- The FILLING slot of a ring; there is never more than one (R42). -/
def State.fillingSlot (s : State) (i : Nat) : Option Nat :=
  (s.ring i).slots.find? fun n => (s.slot n).state == .filling

/-! ### The writer (3.2) -/

/-- The writer's candidates, in ring position order (R42). -/
def State.writeCandidates (s : State) (i : Nat) : List Nat :=
  (s.ring i).slots.filter fun n =>
    (s.slot n).claims == 0 && (s.slot n).pinned.isNone && (s.slot n).state != .filling
      && (s.ring i).age.head? != some n

/-- The write slot: the first EMPTY or STALE candidate in ring position order, otherwise the candidate nearest the
tail of the age list (R42). -/
def State.writeSlot (s : State) (i : Nat) : Option Nat :=
  let candidates := s.writeCandidates i
  match candidates.find? (fun n => (s.slot n).state == .empty || (s.slot n).state == .stale) with
  | some n => some n
  | none => (s.ring i).age.reverse.find? candidates.contains

/-- The chosen slot becomes FILLING and leaves the age list (R42). -/
def beginWrite (i n : Nat) (s : State) : State :=
  (s.setSlot n ((s.slot n).toFilling i)).setRing i ((s.ring i).leave n)

/-- A bad end: the FILLING slot becomes EMPTY (R44). -/
def badEnd (i : Nat) (s : State) : State :=
  match s.fillingSlot i with
  | none => s
  | some n => s.setSlot n ((s.slot n).toEmpty (.input i))

/-- The still entry of the pending grab from input `i`. -/
def State.grabEntry (s : State) (i : Nat) : Option Nat :=
  s.link.table.findSome? fun e =>
    match e.target with
    | .grab j d _ => if j = i then some d else none
    | .take .. | .assign .. | .reset .. => none

/-- A slot released by a still entry joins the retiring set (R30). -/
def retireStill (e : Nat) (s : State) : State :=
  match s.still e with
  | none => s
  | some n => s.setSlot n (s.slot n).toRetiring

/-- A pending grab of input `i` into entry `e` completes with the slot `n` that has just completed, the reservation
`r` taking its ring position (R35). -/
def completeGrab (i e n r : Nat) (s : State) : State :=
  let ring := (s.ring i).leave n
  let s := s.setRing i { ring with slots := ring.slots.map fun x => if x = n then r else x }
  let s := s.setSlot n { s.slot n with state := .still, owner := .still e }
  let s := s.setSlot r ((s.slot r).toEmpty (.input i))
  let s := s.setReservation i none
  let s := (retireStill e s).setStill e (some n)
  endWhere (·.isGrabOf i) .done s

/-- A good end: the FILLING slot becomes COMPLETE with the sequence, the format and the picture of the frame, and
enters the head of the age list (R43). A pending grab then completes (R35). -/
def goodEnd (i sequence : Nat) (f : Format) (delivered : Picture) (s : State) : State :=
  match s.fillingSlot i with
  | none => s
  | some n =>
    let s := s.setSlot n
      { s.slot n with
        state := .complete, owner := .input i, sequence := sequence, format := some f
        picture := writeFrame f.width f.height delivered }
    let s := s.setRing i ((s.ring i).enter n)
    match s.grabEntry i, s.reservation i with
    | some e, some r => completeGrab i e n r s
    | _, _ => s

/-- The reservation of input `i` returns to the free pool (R36, R37). -/
def freeReservation (i : Nat) (s : State) : State :=
  match s.reservation i with
  | none => s
  | some r => (s.setSlot r (s.slot r).toFree).setReservation i none

/-- A pending grab of input `i` fails with `status` (R36, R37); without one nothing changes. -/
def failGrab (i : Nat) (status : Status) (s : State) : State :=
  if s.hasPending (·.isGrabOf i) then endWhere (·.isGrabOf i) status (freeReservation i s) else s

/-! ### Stale marking, pins and release (3.4, 3.5, R31) -/

/-- The record of a ring slot after its ring has been marked stale (R54). -/
def Slot.marked (i : Nat) (x : Slot) : Slot :=
  match x.state with
  | .complete => if x.pinned.isNone then { x with state := .stale } else x
  | .filling => x.toEmpty (.input i)
  | .free | .empty | .stale | .still | .retiring => x

/-- The ring of input `i` is marked stale (R54). -/
def markStale (i : Nat) (s : State) : State :=
  (s.alterSlots (s.ring i).slots (Slot.marked i)).setRing i { s.ring i with age := [], fresh := 0 }

/-- The lowest-numbered window whose window pin is slot `n` (Table 3.1, note 2). -/
def State.lowestPinner (s : State) (n : Nat) : Option Nat := windowNumbers.find? fun w => s.pin w == some n

/-- The window pin of window `w` is released. Released within an output frame it leaves one claim on the slot (R53). -/
def releasePin (w : Nat) (withinFrame : Bool) (s : State) : State :=
  match s.pin w with
  | none => s
  | some n =>
    let s := s.setPin w none
    let left := s.lowestPinner n
    let x := { s.slot n with pinned := left }
    let s := s.setSlot n (if left.isNone then { x with state := .stale } else x)
    if withinFrame then addClaim n s else s

/-- The window is unfrozen and its pin released (R53, R108). -/
def unfreeze (w : Nat) (withinFrame : Bool) (s : State) : State :=
  releasePin w withinFrame (s.setWindow w { s.window w with frozen := false })

/-- The windows frozen on input `i`: frozen with their shown source on it (R31, R55). -/
def State.frozenOn (s : State) (i : Nat) : List Nat :=
  windowNumbers.filter fun w => (s.window w).frozen && (s.window w).shown == .input i

/-- Every window frozen on input `i` is unfrozen within the output frame (R55). -/
def unfreezeAll (i : Nat) (s : State) : State :=
  (s.frozenOn i).foldl (fun s w => unfreeze w true s) s

/-- The record of a ring slot after the release of its ring: retiring if it was held, free otherwise (R31). -/
def Slot.released (x : Slot) : Slot := if x.isHeld then x.toRetiring else x.toFree

/-- The ring of input `i` is released: its windows are unfrozen, held slots retire, the others are freed, and a
pending grab ends with ABORTED (R31, R36). -/
def releaseRing (i : Nat) (s : State) : State :=
  let frozen := s.frozenOn i
  let s := { s with
    windows := alter s.windows frozen fun x => { x with frozen := false }
    pins := alter s.pins frozen fun _ => none }
  let s := (s.alterSlots (s.ring i).slots Slot.released).setRing i Ring.reset
  failGrab i .aborted s

/-! ### The boundary (R29) -/

/-- Steps (1) and (2): every claim is released and the retiring set joins the free pool. The fresh counts become 0
(R41). -/
def releaseClaims (s : State) : State :=
  { s with
    slots := s.slots.map fun x =>
      let x := { x with claims := 0 }
      if x.state = .retiring then x.toFree else x
    rings := s.rings.map fun r => { r with fresh := 0 } }

/-- The inputs whose grabs time out at this boundary. -/
def State.timedOut (s : State) : List Nat :=
  s.link.table.filterMap fun e =>
    match e.target with
    | .grab i _ left => if left ≤ 1 then some i else none
    | .take .. | .assign .. | .reset .. => none

/-- Step (3): every timeout count decreases by 1. A count that reaches 0 returns its reservation; its entry ends,
with the others that end at this boundary, in the order of acceptance (R37, R154). -/
def countGrabs (s : State) : State :=
  let s := s.timedOut.foldl (fun s i => freeReservation i s) s
  s.setLink { s.link with
    table := s.link.table.map fun e =>
      match e.target with
      | .grab i d left => { e with target := .grab i d (left - 1) }
      | .take .. | .assign .. | .reset .. => e }

end Sys2Proof.Machine
end

