-- ==== Sys2Proof/Machine/TimeBase.lean ====
section
/-! DEFINITION. The output time base (Section 4): presence of the lock sources, the timing states, lock points, the
steps of R69, and the commands of this family. -/

namespace Sys2Proof.Machine

/-! ### Presence (R63, R64) -/

/-- INPUT n is present: LOCKED on a rate class compatible with the rate in force (R64). -/
def State.inputPresent (s : State) (n : Nat) : Bool :=
  (s.input n).state == .locked &&
    match (s.input n).counted with
    | some f => s.time.rate.compatible f.rate
    | none => false

/-- The lock source in force is present (R63, R64). -/
def State.lockPresent (s : State) : Bool :=
  match s.time.source with
  | .free => false
  | .reference => s.time.refPresent
  | .input n => s.inputPresent n

/-- The interval of the most recent pulse lies in the band of the rate (R63). -/
def Pulse.inBand (r : Rate) (p : Pulse) : Bool :=
  match p.interval with
  | some x => r.inReferenceBand x
  | none => false

/-- No more than 1.5 nominal periods have passed since the most recent pulse (R63). -/
def Pulse.recent (r : Rate) (now : Ticks) (p : Pulse) : Bool := 2 * (now - p.time) ≤ 3 * r.period

/-- Presence of REFERENCE worked out from the reference record, as at a change of rate (R63). -/
def referencePresence (r : Rate) (now : Ticks) : Option Pulse → Bool
  | none => false
  | some p => p.inBand r && p.recent r now

/-! ### Timing states (R66, R67, R70) -/

/-- The timing state becomes `x`; a change raises TIMING (R70). -/
def enterTiming (x : Timing) (s : State) : State :=
  let t := s.setTime { s.time with timing := x }
  if s.time.timing = x then t else raise (.timing x) t

/-- A period measured by no lock point is a free value within the band its rate accepts (log entry 5). -/
def ensureMeasured (s : State) : State :=
  match s.time.measured with
  | some _ => s
  | none =>
    let r := s.time.rate
    s.setTime { s.time with
      measured := some (max r.shortest (min r.longest (Config.unmeasuredPeriod s.time.freeUses)))
      freeUses := s.time.freeUses + 1 }

/-- The held or measured period. -/
def State.period (s : State) : Ticks := s.time.measured.getD s.time.rate.period

/-- TRACKING is entered between boundaries: the boundary scheduled for the frame in progress is cancelled (R66 (1)). -/
def enterTracking (s : State) : State :=
  enterTiming .tracking
    (s.setTime { s.time with nextBoundary := none, afterNext := none, holdover := 0, settled := .plain })

/-- HOLDOVER is entered with count 10 × F. A boundary still scheduled stays as it was. One that alignment had
cancelled falls one held period after the last, or at once where that instant has passed (R66 (3); log entry 6). -/
def enterHoldover (s : State) : State :=
  let s := ensureMeasured s
  enterTiming .holdover
    (s.setTime { s.time with
      holdover := 10 * s.factor
      nextBoundary := some (s.time.nextBoundary.getD (max s.now (s.time.frameBegan + s.period))) })

/-- The time base acts on a change of presence of the lock source: `was` is its presence before (R65, R66, R67). -/
def settlePresence (was : Bool) (s : State) : State :=
  if !was && s.lockPresent && s.time.timing != .tracking then enterTracking s
  else if was && !s.lockPresent && s.time.timing == .tracking then enterHoldover s
  else s

/-- The schedule after a lock point at instant `t` that measures `period` (R66 (1), (2)): it ends an aligning frame that
is at least one nominal period long; otherwise it takes a boundary at its own time, delays it to the shortest frame, or
only moves the schedule. -/
def TimeBase.meet (tb : TimeBase) (t period : Ticks) : TimeBase :=
  let d := t - tb.frameBegan
  let m := { tb with measured := some period }
  match tb.nextBoundary with
  | none => if tb.rate.period ≤ d then { m with nextBoundary := some t, afterNext := none } else m
  | some _ =>
    if 2 * d < tb.rate.period then { m with nextBoundary := some (t + period), afterNext := none }
    else if d < tb.rate.shortest then
      { m with nextBoundary := some (tb.frameBegan + tb.rate.shortest), afterNext := some (t + period) }
    else { m with nextBoundary := some t, afterNext := none }

/-- A lock point of the lock source, now, with the period it measures: it acts while the source is present in TRACKING
(R64, R66). -/
def lockPoint (period : Ticks) (s : State) : State :=
  if s.lockPresent && s.time.timing == .tracking then s.setTime (s.time.meet s.now period) else s

/-! ### The boundary (R69) -/

/-- The period lies in the bands accepted at the rate (Tables 1.2 and 4.2). -/
def Rate.accepts (r : Rate) (m : Ticks) : Bool := r.shortest ≤ m && m ≤ r.longest

/-- Step (1): the staged settings come into force. -/
def putInForce (r : Rate) (src : LockSource) (s : State) : State :=
  s.setTime { s.time with rate := r, source := src, staged := none }

/-- Step (1) under a new rate: presence is worked out again. `kept` says that a source is being tracked that stays the
lock source; where it stays present too its measured period goes on, and any other measured period is of the old rate
and is forgotten (R63, R69; log entry 32). -/
def underNewRate (kept : Bool) (s : State) : State :=
  let s := s.setTime { s.time with
    refPresent := referencePresence s.time.rate s.now s.time.reference
    settled := if s.time.settled = .plain then .newRate else s.time.settled }
  s.setTime { s.time with
    measured := if kept && s.lockPresent then s.time.measured.filter s.time.rate.accepts else none }

/-- Step (1): the staged settings come into force, and presence is worked out again under a new rate. -/
def applyStaged (r : Rate) (src : LockSource) (s : State) : State :=
  let t := putInForce r src s
  if r = s.time.rate then t else underNewRate (s.time.timing == .tracking && s.time.source == src) t

/-- TRACKING with the frame that begins at this boundary as the frame in progress (R69 (2)). -/
def alignAtBoundary (s : State) : State :=
  enterTiming .tracking (s.setTime { s.time with holdover := 0, settled := .align })

/-- FREE_RUN from this boundary (R69 (2), R67). -/
def freeRunAtBoundary (s : State) : State :=
  enterTiming .freeRun (s.setTime { s.time with holdover := 0 })

/-- HOLDOVER entered at this boundary, not counted at it (R69 (2), (3)). -/
def holdAtBoundary (s : State) : State :=
  let s := ensureMeasured s
  enterTiming .holdover (s.setTime { s.time with holdover := 10 * s.factor, settled := .held })

/-- Step (2): the state is settled. `r` and `src` are the rate and lock source before step (1). -/
def settleState (r : Rate) (src : LockSource) (s : State) : State :=
  if s.time.source = .free then freeRunAtBoundary s
  else if s.time.rate ≠ r then
    if s.lockPresent then
      if s.time.timing = .tracking && s.time.source = src then s else alignAtBoundary s
    else freeRunAtBoundary s
  else if s.time.source ≠ src then
    if s.lockPresent then alignAtBoundary s
    else if s.time.timing = .tracking then holdAtBoundary s
    else s
  else s

/-- Steps (1) and (2) for the boundary being taken (R69). -/
def settleStaged (s : State) : State :=
  match s.time.staged with
  | none => s
  | some (r, src) => settleState s.time.rate s.time.source (applyStaged r src s)

/-- Step (3): the holdover count, unless HOLDOVER was entered at step (2) (R67, R69). -/
def countHoldover (s : State) : State :=
  if s.time.timing = .holdover && s.time.settled != .held then
    if s.time.holdover ≤ 1 then freeRunAtBoundary s
    else s.setTime { s.time with holdover := s.time.holdover - 1 }
  else s

/-- When the next boundary falls, counted from the one taken at `t` (R65, R66, R67). The boundary after a delayed one is
one measured period after the lock point (R66 (2)), but no frame is shorter than R62 allows (log entry 33). -/
def nextAfter (t : Ticks) (s : State) : Option Ticks :=
  match s.time.timing with
  | .freeRun => some (t + s.time.rate.period)
  | .holdover => some (t + s.period)
  | .tracking =>
    if s.time.settled = .align then none
    else some (max (t + s.time.rate.shortest) (s.time.afterNext.getD (t + s.period)))

/-- The time base's work at the boundary taken at `t`: R69, and the schedule of the next one. -/
def timeBoundary (t : Ticks) (s : State) : State :=
  let s := countHoldover (settleStaged (s.reach t))
  s.setTime { s.time with frameBegan := t, nextBoundary := nextAfter t s, afterNext := none, settled := .plain }

/-! ### The commands -/

/-- Timing Setup, dispatched (R68). -/
def requestTimingSetup (tag : Byte) (rate source input : Nat) (s : State) : State :=
  if rate ≤ 2 && source ≤ 2 && input ≤ 15 then
    answer tag 0x38 .done (s.setTime { s.time with staged := some (rateOf rate, lockSourceOf source input) })
  else answer tag 0x38 .range s

/-- TIMING_SETUP_APPLY: the instant of the scheduled boundary comes, and for it the staged settings are applied and the
timing state is settled (R69 (1), (2); log entry 2). With nothing staged, or while alignment waits for a lock point and
no boundary is scheduled (R66 (1)), the event does not occur. -/
def execTimingSetupApply (s : State) : Result :=
  whenRunning s fun s =>
    match s.time.nextBoundary, s.time.staged with
    | some t, some _ => settleStaged (s.reach t)
    | some _, none | none, _ => s

/-- REFERENCE_PULSE (R63, R64): the reference record and the presence of REFERENCE; a pulse whose interval lies in
the band is a lock point. -/
def pulse (t : Ticks) (s : State) : State :=
  let s := s.reach t
  let was := s.lockPresent
  let interval := s.time.reference.map fun p => t - p.time
  let record : Pulse := { time := t, interval }
  let s := settlePresence was
    (s.setTime { s.time with reference := some record, refPresent := record.inBand s.time.rate })
  match interval with
  | some x => if s.time.source = .reference && record.inBand s.time.rate then lockPoint x s else s
  | none => s

/-- REFERENCE_PULSE (R63). -/
def execReferencePulse (t : Ticks) (s : State) : Result := whenRunning s (pulse t)

/-- The reference timeout: 1.5 nominal periods after the last pulse REFERENCE becomes absent (R63). -/
def referenceLost (s : State) : State :=
  match s.time.reference with
  | none => s
  | some p =>
    let s := s.reach (p.time + (3 * s.time.rate.period) / 2)
    settlePresence s.lockPresent (s.setTime { s.time with refPresent := false })

/-- REFERENCE_TIMEOUT (R63). -/
def execReferenceTimeout (s : State) : Result := whenRunning s referenceLost

/-- The midway instant of input `i` comes. It is a lock point if the input is present then, and measures the half
interval of the frame start before it, whether or not that start was a lock point itself (R64). -/
def midway (i : Nat) (s : State) : State :=
  match (s.input i).midway with
  | none => s
  | some (t, half) =>
    let s := (s.reach t).setInput i { s.input i with midway := none }
    if s.time.source = .input i then lockPoint half s else s

/-- LOCK_POINT_MIDWAY (R64). -/
def execLockPointMidway (i : Fin 16) (s : State) : Result := whenRunning s (midway i)

/-- The holdover count reaches 0 at the boundary being taken (R67). -/
def holdoverEnds (s : State) : State :=
  if s.time.timing = .holdover && s.time.settled != .held && s.time.holdover ≤ 1 then freeRunAtBoundary s else s

/-- HOLDOVER_EXPIRY (R67). -/
def execHoldoverExpiry (s : State) : Result := whenRunning s holdoverEnds

end Sys2Proof.Machine
end

