-- ==== Sys2Proof/Machine/Capture.lean ====
section
/-! DEFINITION. The capture units (Section 1): judgement, the input state machine, stored frames, counters, the
three input requests, and the events of an input link. -/

namespace Sys2Proof.Machine

/-! ### Judgement (R5) -/

/-- The judgements of a frame. -/
inductive Judgement where
  | damaged | matching | otherFormat
  deriving DecidableEq, Repr

/-- The judgement of a frame against the counted format; `cut` says that the receiver flagged it or that it ended
early (R5). -/
def judge (u : Input) (f : FrameInProgress) (cut : Bool) : Judgement :=
  match f.rate with
  | none => .damaged
  | some r =>
    if cut then .damaged
    else if u.counted = some { width := f.width, height := f.height, rate := r, progressive := f.progressive }
    then .matching else .otherFormat

/-- The format of a frame whose interval gave a rate class. -/
def FrameInProgress.format (f : FrameInProgress) : Option Format :=
  f.rate.map fun r => { width := f.width, height := f.height, rate := r, progressive := f.progressive }

/-! ### The input state machine (1.4) -/

/-- The unit enters SEARCHING: no counted format, count 0, timer stopped (R6, R8). -/
def Input.toSearching (u : Input) : Input :=
  { u with state := .searching, counted := none, count := 0, timer := none, midway := none }

/-- frames_bad increases, saturating (R16). -/
def Input.countBad (u : Input) : Input := { u with framesBad := min (u.framesBad + 1) 65535 }

/-- lock_losses increases, saturating (R16). -/
def Input.countLoss (u : Input) : Input := { u with lockLosses := min (u.lockLosses + 1) 65535 }

/-- A bad-frame event in a state that counts it: damaged frames and timer expiries everywhere, other-format frames
outside QUALIFYING (R9, R11, R12, R13). -/
def Input.bad (u : Input) : Input :=
  match u.state with
  | .off | .searching => u
  | .qualifying => u.countBad.toSearching
  | .locked =>
    if u.l ≤ 1 then u.countBad.countLoss.toSearching
    else { u.countBad with state := .suspect, count := 1, midway := none }
  | .suspect =>
    if u.l ≤ u.count + 1 then u.countBad.countLoss.toSearching
    else { u.countBad with count := u.count + 1 }
  | .unsupported => u.countBad.toSearching

/-- A matching frame (R10, R11, R12, R13). -/
def Input.matched (u : Input) : Input :=
  match u.state with
  | .off | .searching | .locked | .unsupported => u
  | .suspect => { u with state := .locked, count := 0 }
  | .qualifying =>
    if u.k ≤ u.count + 1 then
      { u with
        state := if (u.counted.map Format.supported).getD false then .locked else .unsupported
        count := 0 }
    else { u with count := u.count + 1 }

/-- A new candidate in QUALIFYING (R8, R9); the timer starts on entry (R6). A midway instant to come was of the former
candidate's class and goes with it. -/
def Input.candidate (u : Input) (f : Format) (now : Ticks) : Input :=
  match u.state with
  | .searching =>
    { u with state := .qualifying, counted := some f, count := 1, timer := some (now + Config.missingFrame) }
  | .qualifying => { u.countBad with counted := some f, count := 1, midway := none }
  | .off | .locked | .suspect | .unsupported => u

/-- An undamaged frame of another format (R8, R9, R11, R12, R13). -/
def Input.other (u : Input) (f : Format) (now : Ticks) : Input :=
  match u.state with
  | .off => u
  | .searching | .qualifying => u.candidate f now
  | .locked | .suspect | .unsupported => u.bad

/-- The unit after a judged frame end (Table 1.3). -/
def Input.judged (u : Input) (f : FrameInProgress) (j : Judgement) (now : Ticks) : Input :=
  match j, f.format with
  | .damaged, _ => u.bad
  | .matching, _ => u.matched
  | .otherFormat, some g => u.other g now
  | .otherFormat, none => u

/-! ### What a change of a unit brings with it -/

/-- The events of a change of input `i` from `u` to `v`: INPUT LOST first, then INPUT STATE (R14). `lost` says that
lock_losses increased. -/
def raiseInput (i : Nat) (u v : Input) (lost : Bool) (s : State) : State :=
  let s := if lost then raise (.inputLost i v.lockLosses) s else s
  if u.state = v.state then s else raise (.inputState i v.state v.counted) s

/-- Lock is lost by bad frames: SEARCHING from LOCKED or SUSPECT (R16). -/
def lostLock (u v : Input) : Bool :=
  (u.state == .locked || u.state == .suspect) && v.state == .searching

/-- Unit `i` takes a frame event that leaves it as `v`: events, and on entry to SEARCHING the marking of the ring and
the end of a pending grab with SOURCE LOST (R8, R36, R54). -/
def takeFrameEvent (i : Nat) (v : Input) (s : State) : State :=
  let u := s.input i
  let s := raiseInput i u v (lostLock u v) (s.setInput i v)
  if u.state != .searching && v.state == .searching then failGrab i .sourceLost (markStale i s) else s

/-- The end, at instant `t`, of the frame in progress of input `i` (R2 (2), R15). -/
def endFrame (i : Nat) (t : Ticks) (cut : Bool) (delivered : Picture) (s : State) : State :=
  let u := s.input i
  match u.frame with
  | none => s
  | some f =>
    let j := judge u f cut
    let v := { u.judged f j t with frame := none }
    let good := f.stored && j == .matching && v.state == .locked
    let was := s.lockPresent
    match good, f.format with
    | true, some g =>
      let v := { v with sequence := (v.sequence + 1) % 65536, framesStored := (v.framesStored + 1) % 4294967296 }
      settlePresence was (goodEnd i v.sequence g delivered (takeFrameEvent i v s))
    | _, _ =>
      settlePresence was (takeFrameEvent i v (if f.stored then badEnd i s else s))

/-- The frame that starts is to be stored (R15). -/
def Input.stores (u : Input) : Bool :=
  u.state == .locked || u.state == .suspect
    || (u.state == .qualifying && u.k ≤ u.count + 1 && (u.counted.map Format.supported).getD false)

/-- The rate class of a frame start whose interval gives the class of the counted format (R3, R64). -/
def Input.startClass (u : Input) (interval : Ticks) : Option RateClass :=
  (u.counted.map Format.rate).filter fun r => rateClass interval == some r

/-- The period that the lock point of a frame start measures: a frame start of a LOCKED input whose interval gives the
locked class (R64). The half interval is in whole ticks (log entry 7). -/
def Input.lockPeriod (u : Input) (interval : Ticks) : Option Ticks :=
  if u.state = .locked then
    match u.startClass interval with
    | some .r25 | some .r30 => some (interval / 2)
    | some .r50 | some .r60 => some interval
    | some .r24 | none => none
  else none

/-- The midway instant of a frame start, half its interval after it, and that half, for classes 25 and 30 (R64). A frame
begun before the input is LOCKED has one too: it is a lock point if the input is LOCKED by then. -/
def Input.midwayOf (u : Input) (interval start : Ticks) : Option (Ticks × Ticks) :=
  match u.startClass interval with
  | some .r25 | some .r30 => some (start + interval / 2, interval / 2)
  | some .r24 | some .r50 | some .r60 | none => none

/-- The midway instant to come after a frame start at `start`: that of this frame, or otherwise an earlier frame's that
has not passed yet (R64). -/
def Input.midwayAfter (u : Input) (interval : Option Ticks) (start : Ticks) : Option (Ticks × Ticks) :=
  match interval.bind fun x => u.midwayOf x start with
  | some m => some m
  | none => u.midway.filter fun m => start ≤ m.1

/-- A frame start at instant `t` with no frame in progress: the rate class, last start, the timer, the store decision
with its write slot, and the lock point (R2 (1), R3, R6, R15, R42, R64). Section 3.6 shows that a slot is always found;
where none is, the frame is not stored (log entry 8). -/
def startFrame (i : Nat) (t : Ticks) (width height : Nat) (progressive : Bool) (s : State) : State :=
  let u := s.input i
  let interval := u.lastStart.map fun last => t - last
  let slot := if u.stores then s.writeSlot i else none
  let v := { u with
    lastStart := some t
    timer := u.timer.map fun _ => t + Config.missingFrame
    frame := some { width, height, rate := interval.bind rateClass, progressive, stored := slot.isSome }
    midway := u.midwayAfter interval t }
  let s := s.setInput i v
  let s := match slot with
    | some n => beginWrite i n s
    | none => s
  match interval.bind u.lockPeriod with
  | some period => if s.time.source = .input i then lockPoint period s else s
  | none => s

/-- The missing-frame timer of input `i` expires (R6): it restarts, a frame in progress is abandoned as a bad end,
and the expiry acts as one bad-frame event. -/
def expireTimer (i : Nat) (s : State) : State :=
  match (s.input i).timer with
  | none => s
  | some t =>
    let s := s.reach t
    let u := s.input i
    let s := if (u.frame.map FrameInProgress.stored).getD false then badEnd i s else s
    let was := s.lockPresent
    let v := { u with timer := some (t + Config.missingFrame), frame := none }.bad
    settlePresence was (takeFrameEvent i v s)

/-! ### Input Setup, Input Reset, Input Query -/

/-- The checks of Input Setup in order; none where it is accepted (R18). -/
def checkInputSetup (p : InputSetupFields) (s : State) : Option Status :=
  if !inputSetupOk p then some .range
  else if s.hasPending (·.isResetOf p.input) then some .busy
  else if (s.input p.input).state != .off && p.enable == 1 && p.ring != (s.ring p.input).slots.length then some .state
  else if (s.input p.input).state == .off && p.enable == 1 && s.freeSlots.length < p.ring then some .noSlots
  else none

/-- The settings an accepted Input Setup always stores (R19). -/
def Input.withSettings (u : Input) (p : InputSetupFields) : Input :=
  { u with k := p.k, l := p.l, substKind := substOf p.subst, substStill := p.still, substColour := p.colour }

/-- The unit enters OFF by Input Setup (R7). -/
def Input.toOff (u : Input) : Input :=
  { u with state := .off, counted := none, count := 0, timer := none, lastStart := none, frame := none, midway := none }

/-- OFF with ENABLE 1: the ring, sequence 0, SEARCHING (R19 (2)). -/
def enableInput (p : InputSetupFields) (s : State) : State :=
  let u := (s.input p.input).withSettings p
  let v := { u with ringLength := p.ring, sequence := 0, lastStart := none, state := .searching }
  raiseInput p.input u v false (allocateRing p.input p.ring (s.setInput p.input v))

/-- Not OFF with ENABLE 0: the frame in progress is abandoned, the unit enters OFF, the ring is released (R19 (4)). -/
def disableInput (p : InputSetupFields) (s : State) : State :=
  let u := (s.input p.input).withSettings p
  let was := s.lockPresent
  let s := if (u.frame.map FrameInProgress.stored).getD false then badEnd p.input s else s
  let v := { u.toOff with ringLength := p.ring }
  settlePresence was (releaseRing p.input (raiseInput p.input u v false (s.setInput p.input v)))

/-- An accepted Input Setup (R19). -/
def applyInputSetup (p : InputSetupFields) (s : State) : State :=
  let u := s.input p.input
  match u.state, p.enable with
  | .off, 0 => s.setInput p.input { u.withSettings p with ringLength := p.ring }
  | .off, _ => enableInput p s
  | _, 0 => disableInput p s
  | _, _ => s.setInput p.input (u.withSettings p)

/-- Input Setup, dispatched (R18, R19). With ENABLE 0 the reply of a pending grab that the setup ends is queued before
the setup's own: the model's choice (log entry 30). -/
def requestInputSetup (tag : Byte) (p : InputSetupFields) (s : State) : State :=
  match checkInputSetup p s with
  | some status => answer tag 0x10 status s
  | none => answer tag 0x10 .done (applyInputSetup p s)

/-- The checks of Input Reset in order (R20). -/
def checkInputReset (i : Nat) (s : State) : Option Status :=
  if 15 < i then some .range
  else if (s.input i).state == .off then some .state
  else if s.hasPending (·.isResetOf i) || s.tableFull then some .busy
  else none

/-- What an accepted Input Reset does to the input at once (R20, R55). -/
def resetInput (i : Nat) (s : State) : State :=
  let u := s.input i
  let was := s.lockPresent
  let s := if (u.frame.map FrameInProgress.stored).getD false then badEnd i s else s
  let v := { u.toSearching with frame := none, framesStored := 0, framesBad := 0, lockLosses := 0, sequence := 0 }
  let s := raiseInput i u v false (s.setInput i v)
  settlePresence was (failGrab i .aborted (unfreezeAll i (markStale i s)))

/-- Input Reset, dispatched (R20). -/
def requestInputReset (tag : Byte) (i : Nat) (s : State) : State :=
  match checkInputReset i s with
  | some status => answer tag 0x11 status s
  | none => resetInput i (enterTable tag (.reset i) s)

/-- The data of Input Query (Table 1.5). -/
def inputQueryData (i : Nat) (s : State) : List Byte :=
  let u := s.input i
  [byte u.state.code, byte u.count] ++ formatBytes u.counted
    ++ [byte u.ringLength, byte u.k, byte u.l, byte u.substKind.code, byte u.substStill] ++ colourBytes u.substColour
    ++ [flag (s.hasPending (·.isResetOf i))] ++ word4 u.framesStored ++ word u.framesBad ++ word u.lockLosses
    ++ word u.sequence

/-- Input Query, dispatched (R21). -/
def requestInputQuery (tag : Byte) (i clear : Nat) (s : State) : State :=
  if i ≤ 15 && clear ≤ 1 then
    let t := answerData tag 0x12 (inputQueryData i s) s
    if clear = 1 then t.setInput i { s.input i with framesStored := 0, framesBad := 0, lockLosses := 0 } else t
  else answer tag 0x12 .range s

/-! ### The events of an input link -/

/-- A frame start (R2): a frame still in progress first ends early. A unit in OFF takes no notice. -/
def frameStart (i : Nat) (t : Ticks) (width height : Nat) (progressive : Bool) (s : State) : State :=
  let s := s.reach t
  if (s.input i).state = .off then s
  else startFrame i t width height progressive (endFrame i t true [] s)

/-- FRAME_START (R2). -/
def execFrameStart (i : Fin 16) (t : Ticks) (width height : Nat) (progressive : Bool) (s : State) : Result :=
  whenRunning s (frameStart i t width height progressive)

/-- The last line of the frame in progress (R2): `flagged` says the receiver detected errors anywhere in it, and
`delivered` holds its pixels. -/
def frameEnd (i : Nat) (t : Ticks) (flagged : Bool) (delivered : Picture) (s : State) : State :=
  let s := s.reach t
  if (s.input i).state = .off then s else endFrame i t flagged delivered s

/-- FRAME_END (R2). -/
def execFrameEnd (i : Fin 16) (t : Ticks) (flagged : Bool) (delivered : Picture) (s : State) : Result :=
  whenRunning s (frameEnd i t flagged delivered)

/-- LOSS_OF_SIGNAL (R2 (2)): the frame in progress ends early. -/
def execLossOfSignal (i : Fin 16) (t : Ticks) (s : State) : Result :=
  whenRunning s fun s =>
    let s := s.reach t
    if (s.input i).state = .off then s else endFrame i t true [] s

/-- MISSING_FRAME_TIMER_EXPIRY (R6). -/
def execMissingFrameTimerExpiry (i : Fin 16) (s : State) : Result := whenRunning s (expireTimer i)

/-- The end of the frame in progress will be a good end: stored, matching, and LOCKED after it (R15 (1)). -/
def Input.endsGood (u : Input) (now : Ticks) : Bool :=
  match u.frame with
  | none => false
  | some f => f.stored && judge u f false == .matching && (u.judged f (judge u f false) now).state == .locked

/-- STILL_GRAB_COMPLETE (R35): the first good end of the input after the acceptance of a pending grab. Where no grab
is pending or the end is not good, this event does not occur. -/
def execStillGrabComplete (i : Fin 16) (t : Ticks) (delivered : Picture) (s : State) : Result :=
  whenRunning s fun s =>
    if s.hasPending (·.isGrabOf i) && (s.input i).endsGood t then frameEnd i t false delivered s else s

/-- INPUT_RESET_COMPLETE (R154): the pending Input Reset of the input completes with DONE. -/
def execInputResetComplete (i : Fin 16) (s : State) : Result :=
  whenRunning s (endWhere (·.isResetOf i) .done)

end Sys2Proof.Machine
end

