-- ==== Sys2Proof/Machine/Claims.lean ====
section
/-! DEFINITION. The reader (3.3, 3.4): the choice of a slot or a substitute for a window source, claims at a boundary
and within a frame, and the pins of windows whose freeze takes effect. -/

namespace Sys2Proof.Machine

/-- The input can supply frames: LOCKED or SUSPECT (R22, R46). -/
def State.able (s : State) (i : Nat) : Bool :=
  (s.input i).state == .locked || (s.input i).state == .suspect

/-- The rank of a choice: D_eff, the smaller of D and M′ − 3, and never past the end of the list (R46). -/
def rankOf (delay unpinned length : Nat) : Nat := min (min delay (unpinned - 3)) (length - 1)

/-- The substitute of input `i` as it stands (R17, R47). -/
def chooseSubstitute (i : Nat) (s : State) : Choice :=
  let u := s.input i
  match u.substKind with
  | .black => .black
  | .fill => .colour u.substColour
  | .pattern => .pattern
  | .still =>
    match s.still u.substStill with
    | some n => .slot n
    | none => .black

/-- The choice for INPUT i at a delay (R46, R47); within a frame the fresh entries are left out (R49). -/
def chooseInput (i delay : Nat) (withinFrame : Bool) (s : State) : Choice :=
  let r := s.ring i
  let age := if withinFrame then r.age.drop r.fresh else r.age
  if s.able i then
    match age[rankOf delay (s.unpinned i) age.length]? with
    | some n => .slot n
    | none => chooseSubstitute i s
  else chooseSubstitute i s

/-- The choice for a shown source (R45 to R49). -/
def chooseShown (src : Shown) (delay : Nat) (withinFrame : Bool) (s : State) : Choice :=
  match src with
  | .input i => chooseInput i delay withinFrame s
  | .still e =>
    match s.still e with
    | some n => .slot n
    | none => .black
  | .fill => .fill
  | .pattern => .pattern

/-- The sources a live window is chosen for (the table of R45). -/
def Window.sources (x : Window) : List Shown :=
  if x.frozen then [x.shown]
  else match x.trans with
    | .none => [x.shown]
    | .dead .. => []
    | .mix _ _ old new => [old, new]

/-- A choice that is a slot is claimed (R26). -/
def claimChoice (c : Choice) (s : State) : State :=
  match c with
  | .slot n => addClaim n s
  | .black | .fill | .colour _ | .pattern => s

/-- The entry is of this source of this window. -/
def ClaimEntry.isOf (e : ClaimEntry) (w : Nat) (src : Shown) : Bool := e.window == w && e.source == src

/-- The choice is written into the claim record, in place of an earlier one for the same window source (R50). -/
def recordChoice (w : Nat) (src : Shown) (c : Choice) (s : State) : State :=
  s.setComp { s.comp with
    record := s.comp.record.filter (fun e => !e.isOf w src) ++ [{ window := w, source := src, choice := c }] }

/-- The claim record of a window source. -/
def State.recorded (s : State) (w : Nat) (src : Shown) : Option Choice :=
  (s.comp.record.find? fun e => e.isOf w src).map ClaimEntry.choice

/-- A frozen window on an input reads its pin without a claim, or the input's substitute; every other source is chosen
and claimed as its kind requires (R45, R52). -/
def claimSource (w : Nat) (withinFrame : Bool) (s : State) (src : Shown) : State :=
  let x := s.window w
  match x.frozen, src, s.pin w with
  | true, .input _, some n => recordChoice w src (.slot n) s
  | true, .input i, none => claimChoice (chooseSubstitute i s) (recordChoice w src (chooseSubstitute i s) s)
  | _, _, _ =>
    let c := chooseShown src x.live.delay withinFrame s
    claimChoice c (recordChoice w src c s)

/-- Every source of the window that the claim record does not hold yet is chosen for (R45, R49), and those that
`brought` names are chosen for anew. -/
def claimWindow (withinFrame : Bool) (brought : Nat → Shown → Bool) (s : State) (w : Nat) : State :=
  (s.window w).sources.foldl
    (fun s src => if (s.recorded w src).isSome && !brought w src then s else claimSource w withinFrame s src) s

/-- Every window of the scene's live layer list is chosen for. -/
def claimScene (withinFrame : Bool) (brought : Nat → Shown → Bool) (s : State) (k : Nat) : State :=
  (s.scene k).liveList.foldl (claimWindow withinFrame brought) s

/-- No source is chosen for a second time. -/
def broughtNone (_ : Nat) (_ : Shown) : Bool := false

/-- Every source is brought in. -/
def broughtAll (_ : Nat) (_ : Shown) : Bool := true

/-- Scene `k` takes its pixels from this source of this window: the window stands in its live list and has the
source. -/
def State.uses (s : State) (k w : Nat) (src : Shown) : Bool :=
  (s.scene k).liveList.contains w && (s.window w).sources.contains src

/-! ### Displayed scenes (R141) -/

/-- The scene a port displays: its assigned scene in NORMAL and RESUMING, the scene of its action in PROTECTED. -/
def Port.displays (p : Port) : Option Nat :=
  match p.state with
  | .normal | .resuming => p.assigned
  | .protected_ => if p.action = .scene then some p.index else none
  | .disabled | .starting => none

/-- The scene is displayed. -/
def State.displayed (s : State) (k : Nat) : Bool := s.ports.toList.any fun p => p.displays == some k

/-- The displayed scenes in increasing number. -/
def State.displayedScenes (s : State) : List Nat := (List.range Config.scenes).filter s.displayed

/-! ### Pins (R51) -/

/-- The live layer list of the window's scene holds it. -/
def State.inLive (s : State) (w : Nat) : Bool :=
  match (s.window w).binding with
  | some k => (s.scene k).liveList.contains w
  | none => false

/-- The window's scene is composed in the frame that begins. -/
def State.inComposed (s : State) (w : Nat) : Bool :=
  match (s.window w).binding with
  | some k => s.comp.composed.contains k
  | none => false

/-- The pin of slot `n` of input `i` for window `w`: the slot leaves the age list and names the lowest-numbered
window whose pin it is (R51). -/
def makePin (i n w : Nat) (s : State) : State :=
  let s := (s.setPin w (some n)).setRing i ((s.ring i).leave n)
  s.setSlot n { s.slot n with pinned := s.lowestPinner n }

/-- The claim and pin of a window whose freeze takes effect at this boundary. `ages` holds the age lists before the
first pin of the boundary. A pin that would leave the ring with fewer than three unpinned slots is not made and the
window is unfrozen. A window of a scene that is not displayed is pinned without a claim (R51, R107). -/
def pinWindow (ages : Vector Ring 16) (s : State) (w : Nat) : State :=
  let x := s.window w
  match x.frozen, x.shown with
  | true, .input i =>
    let age := (look ages i Ring.reset).age
    if s.able i then
      match age[rankOf x.live.delay (s.unpinned i) age.length]? with
      | none => s
      | some n =>
        if (s.slot n).pinned.isNone && s.unpinned i < 4 then s.setWindow w { x with frozen := false }
        else
          let s := makePin i n w s
          if s.inComposed w then addClaim n (recordChoice w x.shown (.slot n) s) else s
    else s
  | _, _ => s

/-- The claims of protection actions: one claim on the entry's slot for each PROTECTED port whose action is STILL
(R135, R141). -/
def claimPortStill (s : State) (p : Nat) : State :=
  let x := s.port p
  if x.state = .protected_ && x.action = .still then
    match s.still x.index with
    | some n => addClaim n (s.setComp { s.comp with portStill := put s.comp.portStill p (some n) })
    | none => s
  else s

/-- Claim-making at a boundary (R45, R51, R141). `frozen` are the windows whose freeze takes effect at it. -/
def makeClaims (frozen : List Nat) (s : State) : State :=
  let s := s.setComp { record := [], composed := s.displayedScenes, portStill := Vector.replicate 12 none }
  let s := frozen.foldl (pinWindow s.rings) s
  let s := s.comp.composed.foldl (claimScene false broughtNone) s
  (List.range Config.ports).foldl claimPortStill s

end Sys2Proof.Machine
end

