-- ==== Sys2Proof/Machine/Compose.lean ====
section
/-! DEFINITION. The composition arithmetic (Section 7): eight stages from the claim record to the components a port
sends. -/

namespace Sys2Proof.Machine

/-- The three components of a pixel are computed separately by one formula. -/
def mapColour (f : Nat → Nat) (a : Colour) : Colour := ⟨f a.y, f a.cb, f a.cr⟩
/-- The same for two pixels. -/
def zipColour (f : Nat → Nat → Nat) (a b : Colour) : Colour := ⟨f a.y b.y, f a.cb b.cb, f a.cr b.cr⟩

/-! ### Stage 1: the inner rectangle (R118) -/

/-- The window covers the raster pixel. -/
def covers (d : Rect) (x y : Nat) : Bool := d.x ≤ x && x < d.x + d.w && d.y ≤ y && y < d.y + d.h

/-- Wd and Hd; 0 stands for below 1. -/
def innerSize (d : Rect) (b : Nat) : Nat × Nat := (d.w - 2 * b, d.h - 2 * b)

/-- The inner column and row of a covered pixel, or none for a border pixel. -/
def innerAt (d : Rect) (b x y : Nat) : Option (Nat × Nat) :=
  let (wd, hd) := innerSize d b
  if 1 ≤ wd && 1 ≤ hd && d.x + b ≤ x && x < d.x + b + wd && d.y + b ≤ y && y < d.y + b + hd then
    some (x - d.x - b, y - d.y - b)
  else none

/-! ### Stages 2 to 5: sampling (R119 to R122) -/

/-- The effective crop: origin and size (R119). -/
def effectiveCrop (c : Crop) (w h : Nat) : Rect :=
  match c with
  | .whole => ⟨0, 0, w, h⟩
  | .rect r => if w ≤ r.x || h ≤ r.y then ⟨0, 0, w, h⟩ else ⟨r.x, r.y, min (r.x + r.w) w - r.x, min (r.y + r.h) h - r.y⟩

/-- A step, clamped to 8192–524288 (R120). -/
def stepOf (size inner : Nat) : Nat := max 8192 (min 524288 (size * 65536 / inner))

/-- The two source columns or rows and the phase of an inner column or row (R121). -/
def tapsOf (origin size step k : Nat) : Nat × Nat × Nat :=
  let u := k * step
  let whole := u / 65536
  (origin + min whole (size - 1), origin + min (whole + 1) (size - 1), u % 65536 / 4096)

/-- One interpolation (R122). -/
def lerp (f a b : Nat) : Nat := (a * (16 - f) + b * f + 8) / 16

/-- The interpolated value of a picture of `w` × `h` at inner pixel `(i, j)` of an inner rectangle `wd` × `hd`. -/
def sample (p : Picture) (w h : Nat) (c : Crop) (wd hd i j : Nat) : Colour :=
  let e := effectiveCrop c w h
  let (xa, xb, f) := tapsOf e.x e.w (stepOf e.w wd) i
  let (ya, yb, g) := tapsOf e.y e.h (stepOf e.h hd) j
  let at_ := fun r c => pixelAt p (1920 * r + c)
  zipColour (lerp g) (zipColour (lerp f) (at_ ya xa) (at_ ya xb)) (zipColour (lerp f) (at_ yb xa) (at_ yb xb))

/-- The value of a slot, against the format recorded in it. -/
def sampleSlot (s : State) (n : Nat) (c : Crop) (wd hd i j : Nat) : Colour :=
  let x := s.slot n
  match x.format with
  | some f => sample x.picture f.width f.height c wd hd i j
  | none => black

/-! ### Stage 6: the window pixel (R123 to R125) -/

/-- The bar colours (Table 7.4). -/
def barColour : Nat → Colour
  | 0 => ⟨721, 512, 512⟩
  | 1 => ⟨674, 176, 543⟩
  | 2 => ⟨581, 589, 176⟩
  | 3 => ⟨534, 253, 207⟩
  | 4 => ⟨251, 771, 817⟩
  | 5 => ⟨204, 435, 848⟩
  | 6 => ⟨111, 848, 481⟩
  | _ => ⟨64, 512, 512⟩

/-- The pixel of one source at an inner pixel, from its claim record (Table 7.3). -/
def choicePixel (s : State) (c : WindowConfig) (choice : Choice) (wd hd i j : Nat) : Colour :=
  match choice with
  | .slot n => sampleSlot s n c.crop wd hd i j
  | .black => black
  | .fill => c.fillColour
  | .colour x => x
  | .pattern => barColour (8 * i / wd)

/-- The weight of the new source at step k of N (R103). -/
def mixWeight (k n : Nat) : Nat := (256 * k + n / 2) / n

/-- A blend with weight `w` of 256 (R125, R126). -/
def blend (w upper lower : Nat) : Nat := (w * upper + (256 - w) * lower + 128) / 256

/-- The pixel of a source of the window; a source the claim record does not hold gives black (log entry 9). -/
def sourcePixel (s : State) (w : Nat) (src : Shown) (wd hd i j : Nat) : Colour :=
  match s.recorded w src with
  | some c => choicePixel s (s.window w).live c wd hd i j
  | none => black

/-- The window pixel at an inner pixel (Table 7.3, R125). A frozen window has no transition in progress. -/
def innerPixel (s : State) (w wd hd i j : Nat) : Colour :=
  let x := s.window w
  match x.trans with
  | .none => sourcePixel s w x.shown wd hd i j
  | .dead .. => x.live.fillColour
  | .mix k n old new =>
    zipColour (blend (mixWeight k n)) (sourcePixel s w new wd hd i j) (sourcePixel s w old wd hd i j)

/-- The window pixel at a raster pixel, none where the window does not cover it (R118, R123). -/
def windowPixel (s : State) (w x y : Nat) : Option Colour :=
  let c := (s.window w).live
  if covers c.dest x y then
    match innerAt c.dest c.border x y with
    | some (i, j) => some (innerPixel s w (innerSize c.dest c.border).1 (innerSize c.dest c.border).2 i j)
    | none => some c.borderColour
  else none

/-! ### Stage 7: the layer blend (R126) -/

/-- A window is laid over the accumulator. -/
def layOver (s : State) (x y : Nat) (acc : Colour) (w : Nat) : Colour :=
  match windowPixel s w x y with
  | some c => zipColour (blend (s.window w).live.opacity) c acc
  | none => acc

/-- A pixel of the scene's raster. -/
def scenePixel (s : State) (k x y : Nat) : Colour :=
  (s.scene k).liveList.foldl (layOver s x y) (s.scene k).liveBackground

/-! ### Stage 8: port conversion (R127, R128) -/

/-- A component held within limits. -/
def clampTo (lo hi v : Nat) : Nat := max lo (min hi v)

/-- The range of a port (R127). -/
def applyRange (full : Bool) (c : Colour) : Colour :=
  if full then c else ⟨clampTo 64 940 c.y, clampTo 64 960 c.cb, clampTo 64 960 c.cr⟩

/-- The depth of a port (R128). -/
def applyDepth (depth10 : Bool) (v : Nat) : Nat := if depth10 then v else min 255 ((v + 2) / 4)

/-- The components a port sends for a raster pixel. -/
def convert (p : Port) (c : Colour) : Colour := mapColour (applyDepth p.depth10) (applyRange p.full c)

/-- The full-raster still of a protection action (R129): from the slot the port's claim holds, or black. -/
def stillPixel (s : State) (p x y : Nat) : Colour :=
  match look s.comp.portStill p none with
  | some n => sampleSlot s n .whole 1920 1080 x y
  | none => black

/-- The raster pixel of a port's picture in progress. -/
def showingPixel (s : State) (p x y : Nat) : Colour :=
  match (s.port p).showing with
  | .black => black
  | .scene k => scenePixel s k x y
  | .still _ => stillPixel s p x y

/-- Line `y` as port `p` sends it; a DISABLED port sends nothing (R62, R132). -/
def sentLine (s : State) (p y : Nat) : Option SentLine :=
  if (s.port p).state = .disabled then none
  else some { number := y, pixels := (List.range Config.columns).map fun x => convert (s.port p) (showingPixel s p x y) }

/-- The start time of the next line of the output frame (R62): line k begins k/1125 of a nominal period after the
boundary, and every port sends it from the state then in force (R117). In blanking no line starts. -/
def startLine (s : State) : State :=
  if s.nextLine < Config.lines then
    let s := s.reach (s.time.frameBegan + s.nextLine * (s.time.rate.period / 1125))
    { s with
      ports := s.ports.mapIdx fun p x => { x with line := sentLine s p s.nextLine }
      nextLine := s.nextLine + 1 }
  else s

/-- OUTPUT_LINE_START (R62, R117). -/
def execOutputLineStart (s : State) : Result := whenRunning s startLine

end Sys2Proof.Machine
end

