-- ==== Sys2Proof/Machine/Ports.lean ====
section
/-! DEFINITION. The output ports and protection (Section 8), with the commands of this family. -/

namespace Sys2Proof.Machine

/-! ### Causes (R133, R134, R138, R142) -/

/-- The cause set is empty. -/
def Port.noCause (p : Port) : Bool := !(p.causeA || p.causeB || p.hold)

/-- The causes of two ports are the same set. -/
def Port.sameCauses (p q : Port) : Bool := p.causeA == q.causeA && p.causeB == q.causeB && p.hold == q.hold

/-- PORT PROTECT for port `n` with its cause set (R142). -/
def raiseProtect (n : Nat) (p : Port) (s : State) : State :=
  raise (.portProtect n p.causeA p.causeB p.hold) s

/-- AUTO restart: a PROTECTED port with an empty cause set enters RESUMING (R138). -/
def Port.autoRestart (p : Port) : Port :=
  if p.state = .protected_ && p.auto && p.noCause then { p with state := .resuming } else p

/-- Port `n` takes a new cause set in one event: `p` holds the port with its causes already changed, `old` as it was.
Gaining a cause outside PROTECTED enters PROTECTED with a black remainder (R134); in PROTECTED a changed set is
reported and may start the AUTO restart (R138, R142). -/
def takeCauses (n : Nat) (old p : Port) (s : State) : State :=
  match p.state with
  | .disabled => s.setPort n p
  | .starting | .normal | .resuming =>
    if p.noCause then s.setPort n p
    else
      let q := { p with state := .protected_, showing := .black }
      raiseProtect n q (s.setPort n q)
  | .protected_ =>
    let t := s.setPort n p.autoRestart
    if p.sameCauses old then t else raiseProtect n p t

/-! ### Port Setup (R131, R132) -/

/-- The settings that an accepted Port Setup stores (R131). -/
def Port.withSettings (x : Port) (p : PortSetupFields) : Port :=
  { x with
    enable := p.enable == 1, depth10 := p.depth == 1, full := p.range == 1, protectA := p.protectA == 1
    protectB := p.protectB == 1, action := actionOf p.action, index := p.index, auto := p.restart == 1 }

/-- The line causes follow the levels of the lines among the protect sources (R131 (3), R133). -/
def Port.withLines (x : Port) (a b : Bool) : Port := { x with causeA := x.protectA && a, causeB := x.protectB && b }

/-- The port enters DISABLED: the cause set becomes empty and no picture is in progress (R132). -/
def Port.disabled (x : Port) : Port :=
  { x with state := .disabled, causeA := false, causeB := false, hold := false, showing := .black }

/-- An accepted Port Setup (R131, R132). -/
def applyPortSetup (p : PortSetupFields) (s : State) : State :=
  let old := s.port p.port
  let x := old.withSettings p
  if p.enable = 0 then s.setPort p.port x.disabled
  else if old.state = .disabled then
    takeCauses p.port old ({ x with state := .starting, showing := .black }.withLines s.overrideA s.overrideB) s
  else takeCauses p.port old (x.withLines s.overrideA s.overrideB) s

/-- Port Setup, dispatched (R131). -/
def requestPortSetup (tag : Byte) (p : PortSetupFields) (s : State) : State :=
  if portSetupOk p then answer tag 0x30 .done (applyPortSetup p s) else answer tag 0x30 .range s

/-! ### Hold, Resume, Assign, Query -/

/-- Port Hold, dispatched (R136). -/
def requestHold (tag : Byte) (n : Nat) (s : State) : State :=
  if 11 < n then answer tag 0x32 .range s
  else if (s.port n).state = .disabled then answer tag 0x32 .state s
  else answer tag 0x32 .done (takeCauses n (s.port n) { s.port n with hold := true } s)

/-- An override line among the port's protect sources is asserted. -/
def State.causeAsserted (s : State) (n : Nat) : Bool :=
  ((s.port n).protectA && s.overrideA) || ((s.port n).protectB && s.overrideB)

/-- The checks of Port Resume in order (R137). -/
def checkResume (n : Nat) (s : State) : Option Status :=
  if 11 < n then some .range
  else if (s.port n).state != .protected_ then some .state
  else if s.causeAsserted n then some .causeActive
  else none

/-- Port Resume, dispatched (R137). -/
def requestResume (tag : Byte) (n : Nat) (s : State) : State :=
  match checkResume n s with
  | some status => answer tag 0x33 status s
  | none => answer tag 0x33 .done
      (s.setPort n { s.port n with state := .resuming, causeA := false, causeB := false, hold := false })

/-- The checks of Port Assign in order (R139). -/
def checkAssign (n k : Nat) (frame : Bool) (s : State) : Option Status :=
  if 11 < n || (15 < k && k != 255) then some .range
  else if s.hasPending (·.isAssignOf n) then some .busy
  else if frame && s.tableFull then some .busy
  else none

/-- Port Assign with timing FRAME, dispatched (R139). -/
def requestAssignFrame (tag : Byte) (n k : Nat) (s : State) : State :=
  match checkAssign n k true s with
  | some status => answer tag 0x31 status s
  | none => enterTable tag (.assign n (assignedOf k)) s

/-- The picture of an assigned scene, black for none (R141 (3)). -/
def showingOf : Option Nat → Showing
  | some k => .scene k
  | none => .black

/-- Within a frame a scene not composed yet is composed for the remaining lines, with claims at once for every source it
brings in; a choice of the same window from a scene it stood in before is replaced (R140, R49, R50). -/
def composeNow (k : Nat) (s : State) : State :=
  if s.comp.composed.contains k then s
  else claimScene true broughtAll (s.setComp { s.comp with composed := s.comp.composed ++ [k] }) k

/-- An accepted NOW assign (R140). -/
def applyAssignNow (n : Nat) (scene : Option Nat) (s : State) : State :=
  let p := s.port n
  if p.state = .normal then
    let t := s.setPort n { p with assigned := scene, showing := showingOf scene }
    match scene with
    | some k => composeNow k t
    | none => t
  else s.setPort n { p with assigned := scene }

/-- Port Assign with timing NOW, dispatched (R139, R140). -/
def requestAssignNow (tag : Byte) (n k : Nat) (s : State) : State :=
  match checkAssign n k false s with
  | some status => answer tag 0x31 status s
  | none => answer tag 0x31 .done (applyAssignNow n (assignedOf k) s)

/-- The data of Port Query (Table 8.4). -/
def portQueryData (n : Nat) (s : State) : List Byte :=
  let p := s.port n
  [byte p.state.code, flag p.enable, flag p.depth10, flag p.full, flag p.protectA, flag p.protectB,
   byte p.action.code, byte p.index, flag p.auto, optByte p.assigned, flag (s.hasPending (·.isAssignOf n)),
   flag p.causeA, flag p.causeB, flag p.hold, flag s.overrideA, flag s.overrideB] ++ p.showing.bytes

/-- Port Query, dispatched (R143). -/
def requestPortQuery (tag : Byte) (n : Nat) (s : State) : State :=
  if n ≤ 11 then answerData tag 0x34 (portQueryData n s) s else answer tag 0x34 .range s

/-! ### The boundary (R141) -/

/-- The scene that a pending FRAME assign will store in port `n`. -/
def State.pendingAssign (s : State) (n : Nat) : Option (Option Nat) :=
  s.link.table.findSome? fun e =>
    match e.target with
    | .assign m k => if m = n then some k else none
    | .take .. | .grab .. | .reset .. => none

/-- The picture a port shows from a boundary (R135, R141 (3)). For a protection action STILL it is still s even where
the entry holds no slot and its pixels are black: what Port Query then reports is the model's choice (log entry 31). -/
def Port.picture (p : Port) : Showing :=
  match p.state with
  | .normal => showingOf p.assigned
  | .protected_ =>
    match p.action with
    | .black => .black
    | .still => .still p.index
    | .scene => .scene p.index
  | .disabled | .starting | .resuming => .black

/-- STARTING and RESUMING settle to NORMAL (R141 (2)). -/
def Port.settle (p : Port) : Port :=
  match p.state with
  | .starting | .resuming => { p with state := .normal }
  | .disabled | .normal | .protected_ => p

/-- The assigned scene after step (1) of the boundary work. -/
def Port.assignedAt (p : Port) (pending : Option (Option Nat)) : Option Nat := pending.getD p.assigned

/-- The boundary work of one port: assign, settle, picture (R141). No line of the new frame has started. -/
def Port.boundary (p : Port) (pending : Option (Option Nat)) : Port :=
  let q := { p with assigned := p.assignedAt pending }.settle
  { q with showing := q.picture, line := none }

/-- The ports' boundary work; the entries of completed assigns end with the others of the boundary (R141, R154). -/
def portBoundary (s : State) : State :=
  { s with ports := s.ports.mapIdx fun n p => p.boundary (s.pendingAssign n) }

/-- PORT_ASSIGN_COMPLETE (R139): the pending FRAME assign of the port stores its scene and its reply DONE is queued. -/
def execPortAssignComplete (n : Fin 12) (s : State) : Result :=
  whenRunning s fun s =>
    match s.pendingAssign n with
    | some k => endWhere (·.isAssignOf n) .done (s.setPort n { s.port n with assigned := k })
    | none => s

/-! ### The override lines (R133) -/

/-- The port has the line among its protect sources. -/
def Port.protects (p : Port) : OverrideLine → Bool
  | .a => p.protectA
  | .b => p.protectB

/-- The line's cause becomes active or inactive. -/
def Port.withCause (p : Port) (line : OverrideLine) (active : Bool) : Port :=
  match line with
  | .a => { p with causeA := active }
  | .b => { p with causeB := active }

/-- The level of an override line. -/
def State.setLine (s : State) (line : OverrideLine) (level : Bool) : State :=
  match line with
  | .a => { s with overrideA := level }
  | .b => { s with overrideB := level }

/-- One port takes the assertion or deassertion of a line (R133). -/
def lineOnPort (line : OverrideLine) (level : Bool) (s : State) (n : Nat) : State :=
  let p := s.port n
  if p.state != .disabled && p.protects line then takeCauses n p (p.withCause line level) s else s

/-- An assertion or deassertion is one event, taken by every port that is not DISABLED, in increasing port number
(R133; log entry 10). -/
def moveLine (line : OverrideLine) (level : Bool) (s : State) : State :=
  (List.range Config.ports).foldl (lineOnPort line level) (s.setLine line level)

/-- OVERRIDE_ASSERT (R133). While the RESET line is asserted the level is an input and no port acts on it (R130,
R157). -/
def execOverrideAssert (line : OverrideLine) (s : State) : Result :=
  .next (if s.resetLine then s.setLine line true else moveLine line true s)

/-- OVERRIDE_DEASSERT (R133). -/
def execOverrideDeassert (line : OverrideLine) (s : State) : Result :=
  .next (if s.resetLine then s.setLine line false else moveLine line false s)

end Sys2Proof.Machine
end

