-- ==== Sys2Proof/Machine/Takes.lean ====
section
/-! DEFINITION. Takes, transitions, freezes and tours (Section 6), with the commands of this family. -/

namespace Sys2Proof.Machine

/-! ### Targets and transitions (R95, R99, R102 to R104) -/

/-- The source the window is showing or moving towards (R95). -/
def Window.target (x : Window) : Shown :=
  match x.trans with
  | .none => x.shown
  | .dead _ next => next
  | .mix _ _ _ new => new

/-- A transition in progress is completed, with its new source as the shown source (R104). -/
def Window.complete (x : Window) : Window := { x with shown := x.target, trans := .none }

/-- The live transition starts towards a new target (R99, R102, R103). -/
def Window.start (x : Window) (target : Shown) : Window :=
  match x.live.transition with
  | .cut => { x with shown := target, trans := .none }
  | .fill n => { x with trans := .dead n target }
  | .mix n => { x with trans := .mix 1 n x.shown target }

/-- Step (1) of a boundary for a transition (R102, R103). -/
def Window.advance (x : Window) : Window :=
  match x.trans with
  | .none => x
  | .dead r next => if r ≤ 1 then { x with shown := next, trans := .none } else { x with trans := .dead (r - 1) next }
  | .mix k n old new =>
    if k < n then { x with trans := .mix (k + 1) n old new } else { x with shown := new, trans := .none }

/-! ### Tours (6.5) -/

/-- Entry `q` of the live tour list, as a shown source. A live source TOUR always has an entry (R76). -/
def Window.entry (x : Window) (q : Nat) : Shown :=
  match x.live.tourList[q]? with
  | some e => e.shown
  | none => .fill

/-- The source a take makes live: entry 0 for TOUR. -/
def Window.liveTarget (x : Window) : Shown :=
  match x.live.source with
  | .plain src => src
  | .tour => x.entry 0

/-- The tour starts at entry 0 with a period of the dwell times F (R109). -/
def Window.startTour (x : Window) (f : Nat) : Window :=
  { x with tourPosition := 0, tourPeriod := x.live.dwell * f, tourRemaining := x.live.dwell * f }

/-- No tour: position, frames remaining and period 0 (R109). -/
def Window.noTour (x : Window) : Window := { x with tourPosition := 0, tourPeriod := 0, tourRemaining := 0 }

/-- An entry is eligible: its input is LOCKED, or its still entry holds a slot (R111). -/
def State.eligible (s : State) : TourEntry → Bool
  | .input i => (s.input i).state == .locked
  | .still e => (s.still e).isSome

/-- The next eligible position after `p`, not counting `p` itself (R111). -/
def State.nextEntry (s : State) (list : List TourEntry) (p : Nat) : Option Nat :=
  ((List.range (list.length - 1)).map fun k => (p + 1 + k) % list.length).find? fun q =>
    match list[q]? with
    | some e => s.eligible e
    | none => false

/-- The window at a step of its tour to position `q` (R111). -/
def Window.stepTo (x : Window) (q : Nat) : Window :=
  let y := { x with tourPosition := q }
  if x.entry q = x.target then y else y.complete.start (x.entry q)

/-- The expiry of a tour (R111), with TOUR STEP where it steps (R112). -/
def expireTour (w : Nat) (s : State) : State :=
  let x := { s.window w with tourRemaining := (s.window w).tourPeriod }
  match s.nextEntry x.live.tourList x.tourPosition with
  | none => s.setWindow w x
  | some q => raise (.tourStep w q (x.entry q)) (s.setWindow w (x.stepTo q))

/-- Step (1) of a boundary for a tour (R110). -/
def countTour (w : Nat) (s : State) : State :=
  let x := s.window w
  if x.live.source = .tour then
    if x.tourRemaining ≤ 1 then expireTour w s
    else s.setWindow w { x with tourRemaining := x.tourRemaining - 1 }
  else s

/-- Step (1) of a boundary for one window: it stands in a live list and is not frozen (R96 (1)). -/
def advanceWindow (s : State) (w : Nat) : State :=
  if s.inLive w && !(s.window w).frozen then countTour w (s.setWindow w (s.window w).advance) else s

/-! ### Takes (R98 to R101, R105) -/

/-- The window's tour starts over: the take makes its live source TOUR from another, or changes its list or dwell
(R99). -/
def startsOver (old : WindowConfig) (x : Window) : Bool :=
  x.live.source == .tour
    && (old.source != .tour || old.tourList != x.live.tourList || old.dwell != x.live.dwell)

/-- A window in both lists (R99, R105). `x` holds the new configuration, `old` the former one. -/
def takeBoth (w f : Nat) (withinFrame : Bool) (old : WindowConfig) (x : Window) (s : State) : State :=
  let again := startsOver old x
  let y := if x.live.source = .tour then (if again then x.startTour f else x) else x.noTour
  let target := if x.live.source = .tour && !again then x.target else x.liveTarget
  if target = x.target then
    let s := s.setWindow w y
    if again && x.frozen then unfreeze w withinFrame s else s
  else
    let s := if x.frozen then unfreeze w withinFrame (s.setWindow w y) else s
    s.setWindow w ({ y with frozen := false }.complete.start target)

/-- A window of the new live list only: it appears at once (R98 (1)). -/
def takeEntering (w f : Nat) (x : Window) (s : State) : State :=
  let y := { x with trans := .none, frozen := false, shown := x.liveTarget }
  s.setWindow w (if x.live.source = .tour then y.startTour f else y.noTour)

/-- A window of the old live list only: it disappears at once (R98 (2)). -/
def takeLeaving (w : Nat) (withinFrame : Bool) (x : Window) (s : State) : State :=
  let s := s.setWindow w { x.complete.noTour with freezeOrder := .none }
  if x.frozen then unfreeze w withinFrame s else s

/-- A window of neither list (R98 (3)). -/
def takeNeither (w : Nat) (x : Window) (s : State) : State :=
  s.setWindow w { x.noTour with shown := x.liveTarget }

/-- The take for one window bound to the scene (R98). -/
def takeWindow (old new : List Nat) (f : Nat) (withinFrame : Bool) (s : State) (w : Nat) : State :=
  let was := (s.window w).live
  let x := { s.window w with live := (s.window w).staged }
  match old.contains w, new.contains w with
  | false, true => takeEntering w f x s
  | true, false => takeLeaving w withinFrame x s
  | false, false => takeNeither w x s
  | true, true => takeBoth w f withinFrame was x s

/-- The windows bound to a scene, in increasing number. -/
def State.boundTo (s : State) (k : Nat) : List Nat := windowNumbers.filter fun w => (s.window w).binding == some k

/-- A take is applied to scene `k`, in one event (R98). -/
def applyTake (k f : Nat) (withinFrame : Bool) (s : State) : State :=
  let c := s.scene k
  let t := s.setScene k { c with liveBackground := c.stagedBackground, liveList := c.stagedList }
  (s.boundTo k).foldl (takeWindow c.liveList c.stagedList f withinFrame) t

/-- The take pending flag of scene `k` is cleared (R81). -/
def clearTakePending (k : Nat) (s : State) : State := s.setScene k { s.scene k with takePending := false }

/-- The takes that are pending, in order of acceptance: scene and take F. -/
def State.pendingTakes (s : State) : List (Nat × Nat) :=
  s.link.table.filterMap fun e =>
    match e.target with
    | .take k f => some (k, f)
    | .assign .. | .grab .. | .reset .. => none

/-- A pending FRAME take is applied at the boundary; its entry ends with the others of the boundary (R100). -/
def applyPendingTake (s : State) (take : Nat × Nat) : State :=
  clearTakePending take.1 (applyTake take.1 take.2 false s)

/-! ### Freezes (6.4) -/

/-- The windows whose freeze order ON takes effect at this boundary (R107). -/
def State.freezing (s : State) : List Nat :=
  windowNumbers.filter fun w => (s.window w).freezeOrder == .on && s.inLive w && !(s.window w).frozen

/-- A freeze order is carried out and becomes none (R96 (3), R107, R108). -/
def carryOutFreeze (s : State) (w : Nat) : State :=
  let x := { s.window w with freezeOrder := .none }
  match (s.window w).freezeOrder with
  | .none => s
  | .on => s.setWindow w (if s.inLive w && !x.frozen then { x.complete with frozen := true } else x)
  | .off =>
    let s := s.setWindow w x
    if x.frozen then unfreeze w false s else s

/-- Steps (1) and (2) of the scene tables' boundary work: advance, then take (R96). -/
def advanceAndTake (s : State) : State :=
  let s := windowNumbers.foldl advanceWindow s
  s.pendingTakes.foldl applyPendingTake s

/-- Step (3): every freeze order is carried out (R96). -/
def carryOutFreezes (s : State) : State := windowNumbers.foldl carryOutFreeze s

/-! ### Scene Take and Window Freeze -/

/-- The checks of Scene Take in order (R97). -/
def checkTake (k : Nat) (frame : Bool) (s : State) : Option Status :=
  if 15 < k then some .range
  else if (s.scene k).takePending then some .busy
  else if frame && s.tableFull then some .busy
  else none

/-- Scene Take with timing FRAME, dispatched (R97). -/
def requestTakeFrame (tag : Byte) (k : Nat) (s : State) : State :=
  match checkTake k true s with
  | some status => answer tag 0x29 status s
  | none => enterTable tag (.take k s.factor) (s.setScene k { s.scene k with takePending := true })

/-- Scene Take with timing NOW, dispatched: applied at once, with claims, where the scene is being composed, for the
sources that the take brings into the rest of the frame (R101, R49, R116). -/
def requestTakeNow (tag : Byte) (k : Nat) (s : State) : State :=
  match checkTake k false s with
  | some status => answer tag 0x29 status s
  | none =>
    let t := applyTake k s.factor true s
    answer tag 0x29 .done (if t.comp.composed.contains k then claimScene true (fun w src => !s.uses k w src) t k else t)

/-- The checks of Window Freeze in order (R106). -/
def checkFreeze (w freeze : Nat) (s : State) : Option Status :=
  if 63 < w || 1 < freeze then some .range
  else if !s.inLive w then some .state
  else if freeze == 1 && !(s.window w).frozen &&
      (match (s.window w).target with
       | .input i => (s.input i).state != .off && s.unpinned i < 4
       | .still _ | .fill | .pattern => false) then some .noSlots
  else none

/-- Window Freeze, dispatched (R106). -/
def requestFreeze (tag : Byte) (w freeze : Nat) (s : State) : State :=
  match checkFreeze w freeze s with
  | some status => answer tag 0x23 status s
  | none => answer tag 0x23 .done
      (s.setWindow w { s.window w with freezeOrder := if freeze = 1 then .on else .off })

/-! ### The events of this family, each as the part of the boundary that it is (log entry 2)

A boundary that follows such an event advances what the event left, as it stands: the model's choice (log entry 35). So
are the rank, the claim and the pin of such an event, which act on the age list and the claims as they stand (log entry
36). -/

/-- SCENE_TAKE_APPLY (R100): the pending FRAME take of the scene is applied, its flag cleared and its reply queued. A
transition or a tour that it starts is advanced by the boundary that follows it (log entry 35), and a pin that it
releases leaves no claim, as at a boundary (R53; log entry 36). -/
def execSceneTakeApply (k : Fin 16) (s : State) : Result :=
  whenRunning s fun s =>
    match s.pendingTakes.find? fun take => take.1 == k.val with
    | some take => endWhere (·.isTakeOf k) .done (applyPendingTake s take)
    | none => s

/-- DEAD_FRAMES_END (R102; log entry 35): the dead frames remaining reach 0 and the window shows the new source. -/
def execDeadFramesEnd (w : Fin 64) (s : State) : Result :=
  whenRunning s fun s =>
    match (s.window w).trans with
    | .dead r next =>
      if r ≤ 1 && s.inLive w && !(s.window w).frozen then
        s.setWindow w { s.window w with shown := next, trans := .none }
      else s
    | .none | .mix .. => s

/-- MIX_END (R103; log entry 35): a MIX at step N ends and the window shows the new source. -/
def execMixEnd (w : Fin 64) (s : State) : Result :=
  whenRunning s fun s =>
    match (s.window w).trans with
    | .mix k n _ new =>
      if n ≤ k && s.inLive w && !(s.window w).frozen then
        s.setWindow w { s.window w with shown := new, trans := .none }
      else s
    | .none | .dead .. => s

/-- TOUR_EXPIRY (R111): the tour frames remaining reach 0. The boundary that follows counts the reloaded tour and
advances a transition that the step started (log entry 35). -/
def execTourExpiry (w : Fin 64) (s : State) : Result :=
  whenRunning s fun s =>
    let x := s.window w
    if s.inLive w && !x.frozen && x.live.source == .tour && x.tourRemaining ≤ 1 then expireTour w s else s

/-- FREEZE_ORDER_ON (R107): the order is carried out, and the window's claim becomes its pin (R51). The boundary that
follows does not advance the frozen window (log entry 35). Commanded alone it is the first pin of its ring: it ranks in
the age list as it stands, which a pin made alone before it has already shortened, so it does not share that pin; and
the boundary that follows releases its claim. That is the model's choice (log entry 36). -/
def execFreezeOrderOn (w : Fin 64) (s : State) : Result :=
  whenRunning s fun s =>
    if (s.window w).freezeOrder = .on then
      let t := carryOutFreeze s w
      if s.inLive w && !(s.window w).frozen then pinWindow t.rings t w else t
    else s

/-- FREEZE_ORDER_OFF (R108): the order is carried out. The boundary that follows advances the unfrozen window (log entry
35). The pin released leaves no claim, as at a boundary (R53; log entry 36). -/
def execFreezeOrderOff (w : Fin 64) (s : State) : Result :=
  whenRunning s fun s => if (s.window w).freezeOrder = .off then carryOutFreeze s w else s

end Sys2Proof.Machine
end

