-- ==== Sys2Proof/Machine/Boundary.lean ====
section
/-! DEFINITION. The output frame boundary: the blocks' work in the order their chapters give (R29, R41, R45, R69, R96,
R141, R154). -/

namespace Sys2Proof.Machine

/-- How a pending request ends at a boundary: takes, assigns and Input Resets with DONE, a grab whose timeout count
has reached 0 with TIMEOUT (R37, R100, R139, R154). -/
def PendingTarget.atBoundary : PendingTarget → Option Status
  | .take .. => some .done
  | .assign .. => some .done
  | .reset _ => some .done
  | .grab _ _ left => if left = 0 then some .timeout else none

/-- The scene tables' steps, the ports' steps and the claim-making of a boundary (R96, R141, R45). -/
def pictureBoundary (s : State) : State :=
  let s := advanceAndTake s
  let frozen := s.freezing
  makeClaims frozen (portBoundary (carryOutFreezes s))

/-- The boundary taken at `t`: the time base first (R69), then the frame store (R29), the scene tables (R96), the
ports (R141), the compositor (R45), and the endings of pending requests in the order of their acceptance (R154). -/
def takeBoundary (t : Ticks) (s : State) : State :=
  let s := countGrabs (releaseClaims (timeBoundary t s))
  let s := endPending PendingTarget.atBoundary (pictureBoundary s)
  { s with nextLine := 0 }

/-- OUTPUT_FRAME_BOUNDARY (R62, R69, R71): the scheduled boundary falls. While alignment waits for a lock point none is
scheduled, and the event does not occur (R66 (1)). -/
def execOutputFrameBoundary (s : State) : Result :=
  whenRunning s fun s =>
    match s.time.nextBoundary with
    | some t => takeBoundary t s
    | none => s

end Sys2Proof.Machine
end

