-- ==== Sys2Proof/Machine/Frames.lean ====
section
/-! DEFINITION. Frames of the control link: their bytes (Table 9.1), the request frame of each request, and the
request that a frame asks for (R151, Table 9.5). -/

namespace Sys2Proof.Machine

/-- The sum of bytes, each taken as a number, modulo 65536 (R146). -/
def checkSum (b : List Byte) : Nat := (b.map BitVec.toNat).sum % 65536

/-- The bytes of a frame with a tag, a kind and a payload (Table 9.1). -/
def frameBytes (tag kind : Byte) (payload : List Byte) : List Byte :=
  let body := byte (payload.length + 2) :: tag :: kind :: payload
  0x7E :: body ++ word (checkSum body)

/-- The bytes the transmitter sends (Tables 9.3, 9.4; R152). -/
def Outgoing.bytes : Outgoing → List Byte
  | .reply r => frameBytes r.tag 0x80 (r.kind :: byte r.status.code :: r.data)
  | .report e => frameBytes 0 0x81 ([byte e.event.code, byte e.event.number] ++ word e.count ++ e.event.data)

/-- The payload length of a listed request kind (Table 9.5; 10.3 and R162 for the event requests). -/
def requestLength : Nat → Option Nat
  | 0x10 => some 13
  | 0x11 => some 1
  | 0x12 => some 2
  | 0x18 => some 2
  | 0x19 => some 1
  | 0x1A => some 2
  | 0x20 => some 2
  | 0x21 => some 1
  | 0x22 => some 57
  | 0x23 => some 2
  | 0x24 => some 1
  | 0x28 => some 16
  | 0x29 => some 2
  | 0x2A => some 1
  | 0x30 => some 9
  | 0x31 => some 3
  | 0x32 => some 1
  | 0x33 => some 1
  | 0x34 => some 1
  | 0x38 => some 3
  | 0x3A => some 11
  | 0x3B => some 2
  | 0x3E => some 1
  | 0x3F => some 0
  | _ => none

/-- What a dispatched frame asks for: a refusal of the link's own checks or of a code no row carries, or a
request. -/
inductive Asked where
  | refused (status : Status)
  | command (c : Instr)
  deriving DecidableEq, Repr

/-- The request in a frame of a listed kind and the right length. TIMING above 1 is out of range for Scene Take and
Port Assign (R97 (1), R139 (1)), the first check of each. -/
def parsePayload (tag : Byte) (kind : Nat) (b : List Byte) : Asked :=
  match kind with
  | 0x10 => .command (.inputSetup tag (parseInputSetup b))
  | 0x11 => .command (.inputReset tag (at8 b 0))
  | 0x12 => .command (.inputQuery tag (at8 b 0) (at8 b 1))
  | 0x18 => .command (.stillGrab tag (at8 b 0) (at8 b 1))
  | 0x19 => .command (.stillDrop tag (at8 b 0))
  | 0x1A => .command (.storeQuery tag (at8 b 0) (at8 b 1))
  | 0x20 => .command (.windowBind tag (at8 b 0) (at8 b 1))
  | 0x21 => .command (.windowUnbind tag (at8 b 0))
  | 0x22 => .command (.windowStage tag (parseWindowStage b))
  | 0x23 => .command (.windowFreeze tag (at8 b 0) (at8 b 1))
  | 0x24 => .command (.windowQuery tag (at8 b 0))
  | 0x28 => .command (.sceneStage tag (parseSceneStage b))
  | 0x29 =>
    match at8 b 1 with
    | 0 => .command (.sceneTakeFrame tag (at8 b 0))
    | 1 => .command (.sceneTakeNow tag (at8 b 0))
    | _ => .refused .range
  | 0x2A => .command (.sceneQuery tag (at8 b 0))
  | 0x30 => .command (.portSetup tag (parsePortSetup b))
  | 0x31 =>
    match at8 b 2 with
    | 0 => .command (.portAssignFrame tag (at8 b 0) (at8 b 1))
    | 1 => .command (.portAssignNow tag (at8 b 0) (at8 b 1))
    | _ => .refused .range
  | 0x32 => .command (.portHold tag (at8 b 0))
  | 0x33 => .command (.portResume tag (at8 b 0))
  | 0x34 => .command (.portQuery tag (at8 b 0))
  | 0x38 => .command (.timingSetup tag (at8 b 0) (at8 b 1) (at8 b 2))
  | 0x3A => .command (.eventEnable tag (parseEventEnable b).1 (parseEventEnable b).2)
  | 0x3B => .command (.eventAck tag (at8 b 0) (at8 b 1))
  | 0x3E => .command (.deviceQuery tag (at8 b 0))
  | 0x3F => .command (.deviceReset tag)
  | _ => .refused .unknownKind

/-- What a frame asks for: the kind is checked first, then the length, before any field (R151). -/
def askedOf (f : Frame) : Asked :=
  match requestLength f.kind.toNat with
  | none => .refused .unknownKind
  | some n => if f.payload.length = n then parsePayload f.tag f.kind.toNat f.payload else .refused .badLength

/-- The frame in which the host sends a request (Tables 9.1, 9.5); none for a command that is no request. -/
def requestFrame : Instr → Option Frame
  | .inputSetup tag p => some ⟨tag, 0x10, encodeInputSetup p⟩
  | .inputReset tag i => some ⟨tag, 0x11, [byte i]⟩
  | .inputQuery tag i c => some ⟨tag, 0x12, [byte i, byte c]⟩
  | .stillGrab tag i e => some ⟨tag, 0x18, [byte i, byte e]⟩
  | .stillDrop tag e => some ⟨tag, 0x19, [byte e]⟩
  | .storeQuery tag v i => some ⟨tag, 0x1A, [byte v, byte i]⟩
  | .windowBind tag w k => some ⟨tag, 0x20, [byte w, byte k]⟩
  | .windowUnbind tag w => some ⟨tag, 0x21, [byte w]⟩
  | .windowStage tag p => some ⟨tag, 0x22, encodeWindowStage p⟩
  | .windowFreeze tag w f => some ⟨tag, 0x23, [byte w, byte f]⟩
  | .windowQuery tag w => some ⟨tag, 0x24, [byte w]⟩
  | .sceneStage tag p => some ⟨tag, 0x28, encodeSceneStage p⟩
  | .sceneTakeFrame tag k => some ⟨tag, 0x29, [byte k, 0]⟩
  | .sceneTakeNow tag k => some ⟨tag, 0x29, [byte k, 1]⟩
  | .sceneQuery tag k => some ⟨tag, 0x2A, [byte k]⟩
  | .portSetup tag p => some ⟨tag, 0x30, encodePortSetup p⟩
  | .portAssignFrame tag p k => some ⟨tag, 0x31, [byte p, byte k, 0]⟩
  | .portAssignNow tag p k => some ⟨tag, 0x31, [byte p, byte k, 1]⟩
  | .portHold tag p => some ⟨tag, 0x32, [byte p]⟩
  | .portResume tag p => some ⟨tag, 0x33, [byte p]⟩
  | .portQuery tag p => some ⟨tag, 0x34, [byte p]⟩
  | .timingSetup tag r src i => some ⟨tag, 0x38, [byte r, byte src, byte i]⟩
  | .eventEnable tag es ms => some ⟨tag, 0x3A, es.map byte ++ ms.map byte⟩
  | .eventAck tag e i => some ⟨tag, 0x3B, [byte e, byte i]⟩
  | .deviceQuery tag c => some ⟨tag, 0x3E, [byte c]⟩
  | .deviceReset tag => some ⟨tag, 0x3F, []⟩
  | .unknownKind tag kind payload => some ⟨tag, kind, payload⟩
  | .resetLineAssert | .resetLineDeassert _ | .deviceResetExecute _ | .overrideAssert _ | .overrideDeassert _
  | .frameStart .. | .frameEnd .. | .lossOfSignal .. | .missingFrameTimerExpiry _ | .stillGrabComplete ..
  | .grabTimeout _ | .inputResetComplete _ | .outputFrameBoundary | .outputLineStart | .timingSetupApply
  | .sceneTakeApply _ | .portAssignComplete _ | .freezeOrderOn _ | .freezeOrderOff _ | .deadFramesEnd _
  | .mixEnd _ | .tourExpiry _ | .referencePulse _ | .referenceTimeout | .lockPointMidway _ | .holdoverExpiry
  | .byteReceived .. | .gapTimerExpiry | .transmitStart | .transmitComplete _ => none

end Sys2Proof.Machine
end

