-- ==== Sys2Proof/Machine/Scenes.lean ====
section
/-! DEFINITION. The requests of Section 5: binding, staging and the two queries. -/

namespace Sys2Proof.Machine

/-- The checks of Window Bind in order (R82). -/
def checkBind (w k : Nat) (s : State) : Option Status :=
  if 63 < w || 15 < k then some .range
  else match (s.window w).binding with
    | some j => if j = k then none else some .owner
    | none => none

/-- Window Bind, dispatched (R82): only the binding changes. -/
def requestBind (tag : Byte) (w k : Nat) (s : State) : State :=
  match checkBind w k s with
  | some status => answer tag 0x20 status s
  | none => answer tag 0x20 .done (s.setWindow w { s.window w with binding := some k })

/-- The window stands in the staged or the live list of its scene. -/
def State.listed (s : State) (w : Nat) : Bool :=
  match (s.window w).binding with
  | some k => (s.scene k).stagedList.contains w || (s.scene k).liveList.contains w
  | none => false

/-- Window Unbind, dispatched (R83): both copies, the tour period and the freeze order take their reset values
(R115). -/
def requestUnbind (tag : Byte) (w : Nat) (s : State) : State :=
  if 63 < w then answer tag 0x21 .range s
  else if s.listed w then answer tag 0x21 .state s
  else answer tag 0x21 .done (s.setWindow w Window.reset)

/-- The checks of Window Stage in order (R84). -/
def checkWindowStage (p : WindowStageFields) (s : State) : Option Status :=
  if !windowStageOk p then some .range
  else if (s.window p.window).binding.isNone then some .owner
  else none

/-- Window Stage, dispatched (R84, R85): the whole staged copy is replaced. -/
def requestWindowStage (tag : Byte) (p : WindowStageFields) (s : State) : State :=
  match checkWindowStage p s with
  | some status => answer tag 0x22 status s
  | none => answer tag 0x22 .done (s.setWindow p.window { s.window p.window with staged := stagedConfig p })

/-- The checks of Scene Stage in order (R87). -/
def checkSceneStage (p : SceneStageFields) (s : State) : Option Status :=
  if !sceneStageOk p then some .range
  else if (p.windows.take p.count).all (fun w => (s.window w).binding == some p.scene) then none
  else some .owner

/-- Scene Stage, dispatched (R87, R88): the staged background and the staged layer list are replaced. -/
def requestSceneStage (tag : Byte) (p : SceneStageFields) (s : State) : State :=
  match checkSceneStage p s with
  | some status => answer tag 0x28 status s
  | none => answer tag 0x28 .done
      (s.setScene p.scene
        { s.scene p.scene with stagedBackground := p.background, stagedList := p.windows.take p.count })

/-- A position in a layer list, H'FF when absent. -/
def layerByte (l : List Nat) (w : Nat) : Byte := optByte (l.idxOf? w)

/-- TRANSITION STATE, PROGRESS, DURATION, OLD and NEW (Table 5.5). -/
def TransState.bytes : TransState → List Byte
  | .none => [0, 0, 0, 0xFF, 0xFF, 0xFF, 0xFF]
  | .dead r next => [1, byte r, 0, 0xFF, 0xFF] ++ next.bytes
  | .mix k n old new => [2, byte k, byte n] ++ old.bytes ++ new.bytes

/-- The data of Window Query (Table 5.5). -/
def windowQueryData (w : Nat) (s : State) : List Byte :=
  let x := s.window w
  [optByte x.binding] ++ x.staged.bytes ++ x.live.bytes ++ x.shown.bytes ++ x.trans.bytes
    ++ [byte x.tourPosition] ++ word x.tourRemaining ++ [flag x.frozen, optByte (s.pin w)]
    ++ match x.binding with
      | some k => [layerByte (s.scene k).stagedList w, layerByte (s.scene k).liveList w]
      | none => [0xFF, 0xFF]

/-- Window Query, dispatched (R89). -/
def requestWindowQuery (tag : Byte) (w : Nat) (s : State) : State :=
  if w ≤ 63 then answerData tag 0x24 (windowQueryData w s) s else answer tag 0x24 .range s

/-- The data of Scene Query (Table 5.6). -/
def sceneQueryData (k : Nat) (s : State) : List Byte :=
  let c := s.scene k
  colourBytes c.stagedBackground ++ [byte c.stagedList.length] ++ listBytes 8 c.stagedList
    ++ colourBytes c.liveBackground ++ [byte c.liveList.length] ++ listBytes 8 c.liveList
    ++ [flag c.takePending, flag (s.displayed k), byte (s.boundTo k).length] ++ listBytes 64 (s.boundTo k)

/-- Scene Query, dispatched (R90). -/
def requestSceneQuery (tag : Byte) (k : Nat) (s : State) : State :=
  if k ≤ 15 then answerData tag 0x2A (sceneQueryData k s) s else answer tag 0x2A .range s

end Sys2Proof.Machine
end

