-- ==== Sys2Proof/Machine/Stills.lean ====
section
/-! DEFINITION. The requests the frame store answers: Still Grab, Still Drop and Store Query (Section 2), and the
timeout of a grab. -/

namespace Sys2Proof.Machine

/-- The checks of Still Grab in order (R33). -/
def checkGrab (i e : Nat) (s : State) : Option Status :=
  if 15 < i || 15 < e then some .range
  else if (s.input i).state != .locked then some .state
  else if s.hasPending (·.isGrabOf i) || s.hasPending (·.isGrabInto e) || s.tableFull then some .busy
  else if s.freeSlots.isEmpty then some .noSlots
  else none

/-- The lowest-numbered FREE slot becomes the grab reservation of input `i` (R34). -/
def reserveSlot (i : Nat) (s : State) : State :=
  match s.freeSlots with
  | [] => s
  | n :: _ => (s.setSlot n ((s.slot n).toEmpty (.grab i))).setReservation i (some n)

/-- Still Grab, dispatched (R33, R34). -/
def requestGrab (tag : Byte) (i e : Nat) (s : State) : State :=
  match checkGrab i e s with
  | some status => answer tag 0x18 status s
  | none => enterTable tag (.grab i e Config.grabTimeout) (reserveSlot i s)

/-- Still Drop, dispatched (R38). -/
def requestDrop (tag : Byte) (e : Nat) (s : State) : State :=
  if 15 < e then answer tag 0x19 .range s
  else if s.hasPending (·.isGrabInto e) then answer tag 0x19 .busy s
  else answer tag 0x19 .done ((retireStill e s).setStill e none)

/-- The slots of a list of banks' entries. -/
def presentCount (l : List (Option Nat)) : Nat := (l.filter Option.isSome).length

/-- The data of Store Query VIEW 0 (Table 2.6). -/
def storeSummary (s : State) : List Byte :=
  [byte s.freeSlots.length, byte ((s.rings.toList.map fun r => r.slots.length).sum),
   byte (presentCount s.stills.toList), byte s.retiringSlots.length, byte (presentCount s.reservations.toList)]
    ++ s.rings.toList.flatMap (fun r => byte r.slots.length :: listBytes 8 r.slots)
    ++ s.stills.toList.map optByte

/-- One position of Store Query VIEW 1 (Table 2.7): slot, state, claims, pin and sequence. -/
def positionBytes (s : State) (position : Option Nat) : List Byte :=
  match position with
  | none => [0xFF, 0, 0, 0, 0, 0]
  | some n =>
    let x := s.slot n
    [byte n, byte x.state.code, byte x.claims, optByte x.pinned] ++ word x.sequence

/-- The data of Store Query VIEW 1 (Table 2.7). -/
def storeDetail (i : Nat) (s : State) : List Byte :=
  let r := s.ring i
  byte r.slots.length :: (List.range 8).flatMap (fun k => positionBytes s r.slots[k]?)
    ++ [byte r.age.length] ++ listBytes 8 r.age ++ [optByte (s.reservation i)]

/-- Store Query, dispatched (R40). -/
def requestStoreQuery (tag : Byte) (view i : Nat) (s : State) : State :=
  if view ≤ 1 && i ≤ 15 then
    answerData tag 0x1A (if view = 0 then storeSummary s else storeDetail i s) s
  else answer tag 0x1A .range s

/-- The pending grab of input `i` reaches count 0 at the boundary being taken (R37). -/
def State.grabExpires (s : State) (i : Nat) : Bool := s.timedOut.contains i

/-- GRAB_TIMEOUT (R37): the pending grab of the input fails with TIMEOUT. -/
def execGrabTimeout (i : Fin 16) (s : State) : Result :=
  whenRunning s fun s => if s.grabExpires i then failGrab i .timeout s else s

end Sys2Proof.Machine
end

