-- ==== Sys2Proof/Machine/Link.lean ====
section
/-! DEFINITION. The link interface (Section 9) and the requests of Sections 9 and 10: the part-wide resets, dispatch,
the receiver and the transmitter. -/

namespace Sys2Proof.Machine

/-! ### Part-wide resets (R156, R157, R164) -/

/-- Every block at its reset values at instant `t`, with the pending set given. The pixels of the slots are not
cleared (Table 2.1, note 2); the levels of the override lines and the commands that wait are not the blocks' own
(R130). -/
def resetPart (t : Ticks) (entries : List Entry) (s : State) : State :=
  { State.reset with
    now := t
    slots := s.slots.map fun x => { Slot.reset with picture := x.picture }
    time := TimeBase.reset t s.time.freeUses
    events := EventUnit.reset entries
    overrideA := s.overrideA
    overrideB := s.overrideB
    resetLine := s.resetLine
    pending := s.pending }

/-- The RESTART entry (R164). -/
def restartEntry (cause : RestartCause) : Entry := { event := .restart cause, count := 1, reported := false }

/-- RESET_LINE_ASSERT (R157): every block holds its reset values and the pending set is empty. -/
def execResetLineAssert (s : State) : Result :=
  .next (if s.resetLine then s else resetPart s.now [] { s with resetLine := true })

/-- RESET_LINE_DEASSERT (R157, R164): the reset ends, with a RESTART entry of cause LINE. -/
def execResetLineDeassert (t : Ticks) (s : State) : Result :=
  .next (if s.resetLine then resetPart (max s.now t) [restartEntry .line] { s with resetLine := false } else s)

/-! ### Event Enable, Event Ack, Device Query, Device Reset -/

/-- Event Enable, dispatched (R160). -/
def requestEventEnable (tag : Byte) (enables masks : List Nat) (s : State) : State :=
  if enables.all (· ≤ 1) && masks.all (· ≤ 1) then
    answer tag 0x3A .done (s.setEvents { s.events with
      enables := Vector.ofFn fun k => enables[k.val]? == some 1
      masks := Vector.ofFn fun k => masks[k.val]? == some 1 })
  else answer tag 0x3A .range s

/-- The instance fits the kind (R162). -/
def ackFits (event inst : Nat) : Bool :=
  match event with
  | 1 | 4 | 6 => inst == 255
  | 2 => inst ≤ 11
  | 3 | 5 => inst ≤ 15
  | 7 => inst ≤ 63
  | _ => false

/-- Event Ack, dispatched (R162). -/
def requestEventAck (tag : Byte) (event inst : Nat) (s : State) : State :=
  if ackFits event inst then
    answer tag 0x3B .done (s.setEvents { s.events with
      entries := s.events.entries.filter fun e => !(e.event.code == event && e.event.number == inst) })
  else answer tag 0x3B .range s

/-- The data of Device Query (Table 9.7). -/
def deviceQueryData (s : State) : List Byte :=
  [byte s.time.timing.code, byte s.time.rate.code] ++ s.time.source.bytes
    ++ [byte s.freeSlots.length, byte s.link.table.length] ++ word s.link.errors

/-- Device Query, dispatched (R155). -/
def requestDeviceQuery (tag : Byte) (clear : Nat) (s : State) : State :=
  if clear ≤ 1 then
    let t := answerData tag 0x3E (deviceQueryData s) s
    if clear = 1 then t.setLink { t.link with errors := 0 } else t
  else answer tag 0x3E .range s

/-- Device Reset, dispatched (R156 (1) to (3)): the receive queue is emptied, every pending request ends with ABORTED,
DONE is queued, and the reset is in progress until that reply has been sent. -/
def requestDeviceReset (tag : Byte) (s : State) : State :=
  let s := s.setLink { s.link with queue := [], resetting := true }
  answer tag 0x3F .done (endWhere (fun _ => true) .aborted s)

/-! ### Dispatch (R150, R151) -/

/-- A request handed to its owner. Events that are no requests are never asked for by a frame. -/
def handOver (c : Instr) (s : State) : State :=
  match c with
  | .inputSetup tag p => requestInputSetup tag p s
  | .inputReset tag i => requestInputReset tag i s
  | .inputQuery tag i clear => requestInputQuery tag i clear s
  | .stillGrab tag i e => requestGrab tag i e s
  | .stillDrop tag e => requestDrop tag e s
  | .storeQuery tag view i => requestStoreQuery tag view i s
  | .windowBind tag w k => requestBind tag w k s
  | .windowUnbind tag w => requestUnbind tag w s
  | .windowStage tag p => requestWindowStage tag p s
  | .windowFreeze tag w f => requestFreeze tag w f s
  | .windowQuery tag w => requestWindowQuery tag w s
  | .sceneStage tag p => requestSceneStage tag p s
  | .sceneTakeFrame tag k => requestTakeFrame tag k s
  | .sceneTakeNow tag k => requestTakeNow tag k s
  | .sceneQuery tag k => requestSceneQuery tag k s
  | .portSetup tag p => requestPortSetup tag p s
  | .portAssignFrame tag n k => requestAssignFrame tag n k s
  | .portAssignNow tag n k => requestAssignNow tag n k s
  | .portHold tag n => requestHold tag n s
  | .portResume tag n => requestResume tag n s
  | .portQuery tag n => requestPortQuery tag n s
  | .timingSetup tag r src i => requestTimingSetup tag r src i s
  | .eventEnable tag es ms => requestEventEnable tag es ms s
  | .eventAck tag e i => requestEventAck tag e i s
  | .deviceQuery tag clear => requestDeviceQuery tag clear s
  | .deviceReset tag => requestDeviceReset tag s
  | .unknownKind tag kind _ => answer tag kind .unknownKind s
  | .resetLineAssert | .resetLineDeassert _ | .deviceResetExecute _ | .overrideAssert _ | .overrideDeassert _
  | .frameStart .. | .frameEnd .. | .lossOfSignal .. | .missingFrameTimerExpiry _ | .stillGrabComplete ..
  | .grabTimeout _ | .inputResetComplete _ | .outputFrameBoundary | .outputLineStart | .timingSetupApply
  | .sceneTakeApply _ | .portAssignComplete _ | .freezeOrderOn _ | .freezeOrderOff _ | .deadFramesEnd _
  | .mixEnd _ | .tourExpiry _ | .referencePulse _ | .referenceTimeout | .lockPointMidway _ | .holdoverExpiry
  | .byteReceived .. | .gapTimerExpiry | .transmitStart | .transmitComplete _ => s

/-- A frame is dispatched: a place is reserved, the link's own checks come first, then the owner takes the request
(R150, R151). -/
def dispatchFrame (f : Frame) (s : State) : State :=
  match askedOf f with
  | .refused status => answer f.tag f.kind status (reservePlace s)
  | .command c => handOver c (reservePlace s)

/-- The frames at the head of the receive queue are dispatched while a free place exists (R150). -/
def drain : Nat → State → State
  | 0, s => s
  | n + 1, s =>
    match s.link.queue with
    | [] => s
    | f :: rest =>
      if 0 < s.link.freePlaces then drain n (dispatchFrame f (s.setLink { s.link with queue := rest })) else s

/-- Every frame in the receive queue that finds a free place is dispatched. -/
def drainQueue (s : State) : State := drain s.link.queue.length s

/-- A discard or an overrun: counted and raised as LINK ERROR, but not while a Device Reset is in progress (R149,
R156). -/
def linkError (s : State) : State :=
  if s.link.resetting then s else raise .linkError (s.setLink s.link.countError)

/-- A complete frame joins the tail of the receive queue, or is an overrun, or is discarded during a Device Reset
(R149, R156 (1)). -/
def queueFrame (f : Frame) (s : State) : State :=
  if s.link.resetting then s
  else if s.link.queue.length < Config.receiveFrames then s.setLink { s.link with queue := s.link.queue ++ [f] }
  else linkError s

/-- The request of command `c` arrives whole. With the receive queue empty and a place free it is dispatched at once,
and `handled` is its owner's work; otherwise its frame is queued, is an overrun, or is discarded (R149, R150, R156). -/
def arrive (c : Instr) (handled : State → State) (s : State) : State :=
  if !s.link.resetting && s.link.queue.isEmpty && 0 < s.link.freePlaces then handled (reservePlace s)
  else match requestFrame c with
    | some f => queueFrame f s
    | none => s

/-- INPUT_SETUP (R18, R19). -/
def execInputSetup (tag : Byte) (p : InputSetupFields) (s : State) : Result :=
  whenRunning s (arrive (.inputSetup tag p) (requestInputSetup tag p))
/-- INPUT_RESET (R20). -/
def execInputReset (tag : Byte) (i : Nat) (s : State) : Result :=
  whenRunning s (arrive (.inputReset tag i) (requestInputReset tag i))
/-- INPUT_QUERY (R21). -/
def execInputQuery (tag : Byte) (i clear : Nat) (s : State) : Result :=
  whenRunning s (arrive (.inputQuery tag i clear) (requestInputQuery tag i clear))
/-- STILL_GRAB (R33, R34). -/
def execStillGrab (tag : Byte) (i e : Nat) (s : State) : Result :=
  whenRunning s (arrive (.stillGrab tag i e) (requestGrab tag i e))
/-- STILL_DROP (R38). -/
def execStillDrop (tag : Byte) (e : Nat) (s : State) : Result :=
  whenRunning s (arrive (.stillDrop tag e) (requestDrop tag e))
/-- STORE_QUERY (R40). -/
def execStoreQuery (tag : Byte) (view i : Nat) (s : State) : Result :=
  whenRunning s (arrive (.storeQuery tag view i) (requestStoreQuery tag view i))
/-- WINDOW_BIND (R82). -/
def execWindowBind (tag : Byte) (w k : Nat) (s : State) : Result :=
  whenRunning s (arrive (.windowBind tag w k) (requestBind tag w k))
/-- WINDOW_UNBIND (R83). -/
def execWindowUnbind (tag : Byte) (w : Nat) (s : State) : Result :=
  whenRunning s (arrive (.windowUnbind tag w) (requestUnbind tag w))
/-- WINDOW_STAGE (R84, R85). -/
def execWindowStage (tag : Byte) (p : WindowStageFields) (s : State) : Result :=
  whenRunning s (arrive (.windowStage tag p) (requestWindowStage tag p))
/-- WINDOW_FREEZE (R106). -/
def execWindowFreeze (tag : Byte) (w freeze : Nat) (s : State) : Result :=
  whenRunning s (arrive (.windowFreeze tag w freeze) (requestFreeze tag w freeze))
/-- WINDOW_QUERY (R89). -/
def execWindowQuery (tag : Byte) (w : Nat) (s : State) : Result :=
  whenRunning s (arrive (.windowQuery tag w) (requestWindowQuery tag w))
/-- SCENE_STAGE (R87, R88). -/
def execSceneStage (tag : Byte) (p : SceneStageFields) (s : State) : Result :=
  whenRunning s (arrive (.sceneStage tag p) (requestSceneStage tag p))
/-- SCENE_TAKE_FRAME (R97). -/
def execSceneTakeFrame (tag : Byte) (k : Nat) (s : State) : Result :=
  whenRunning s (arrive (.sceneTakeFrame tag k) (requestTakeFrame tag k))
/-- SCENE_TAKE_NOW (R97, R101). -/
def execSceneTakeNow (tag : Byte) (k : Nat) (s : State) : Result :=
  whenRunning s (arrive (.sceneTakeNow tag k) (requestTakeNow tag k))
/-- SCENE_QUERY (R90). -/
def execSceneQuery (tag : Byte) (k : Nat) (s : State) : Result :=
  whenRunning s (arrive (.sceneQuery tag k) (requestSceneQuery tag k))
/-- PORT_SETUP (R131, R132). -/
def execPortSetup (tag : Byte) (p : PortSetupFields) (s : State) : Result :=
  whenRunning s (arrive (.portSetup tag p) (requestPortSetup tag p))
/-- PORT_ASSIGN_FRAME (R139). -/
def execPortAssignFrame (tag : Byte) (n k : Nat) (s : State) : Result :=
  whenRunning s (arrive (.portAssignFrame tag n k) (requestAssignFrame tag n k))
/-- PORT_ASSIGN_NOW (R139, R140). -/
def execPortAssignNow (tag : Byte) (n k : Nat) (s : State) : Result :=
  whenRunning s (arrive (.portAssignNow tag n k) (requestAssignNow tag n k))
/-- PORT_HOLD (R136). -/
def execPortHold (tag : Byte) (n : Nat) (s : State) : Result :=
  whenRunning s (arrive (.portHold tag n) (requestHold tag n))
/-- PORT_RESUME (R137). -/
def execPortResume (tag : Byte) (n : Nat) (s : State) : Result :=
  whenRunning s (arrive (.portResume tag n) (requestResume tag n))
/-- PORT_QUERY (R143). -/
def execPortQuery (tag : Byte) (n : Nat) (s : State) : Result :=
  whenRunning s (arrive (.portQuery tag n) (requestPortQuery tag n))
/-- TIMING_SETUP (R68). -/
def execTimingSetup (tag : Byte) (rate source input : Nat) (s : State) : Result :=
  whenRunning s (arrive (.timingSetup tag rate source input) (requestTimingSetup tag rate source input))
/-- EVENT_ENABLE (R160). -/
def execEventEnable (tag : Byte) (enables masks : List Nat) (s : State) : Result :=
  whenRunning s (arrive (.eventEnable tag enables masks) (requestEventEnable tag enables masks))
/-- EVENT_ACK (R162). -/
def execEventAck (tag : Byte) (event inst : Nat) (s : State) : Result :=
  whenRunning s (arrive (.eventAck tag event inst) (requestEventAck tag event inst))
/-- DEVICE_QUERY (R155). -/
def execDeviceQuery (tag : Byte) (clear : Nat) (s : State) : Result :=
  whenRunning s (arrive (.deviceQuery tag clear) (requestDeviceQuery tag clear))
/-- DEVICE_RESET (R156). -/
def execDeviceReset (tag : Byte) (s : State) : Result :=
  whenRunning s (arrive (.deviceReset tag) (requestDeviceReset tag))
/-- UNKNOWN_KIND (R151): the frame's own kind and length decide what it is answered. -/
def execUnknownKind (tag kind : Byte) (payload : List Byte) (s : State) : Result :=
  whenRunning s fun s => drainQueue (queueFrame ⟨tag, kind, payload⟩ s)

/-! ### The receiver (R147 to R149) -/

/-- The receiver takes a byte into LENGTH, BODY or CHECK, restarting the gap timer (R147). -/
def receiveInto (t : Ticks) (r : Receiver) (s : State) : State :=
  s.setLink { s.link with receiver := r, gap := some (t + Config.gap) }

/-- The receiver returns to HUNTING and the gap timer stops (R147). -/
def hunt (s : State) : State := s.setLink { s.link with receiver := .hunting, gap := none }

/-- A frame is discarded (R148). -/
def discard (s : State) : State := linkError (hunt s)

/-- The frame that a body of tag, kind and payload makes. -/
def frameOf : List Byte → Frame
  | tag :: kind :: payload => ⟨tag, kind, payload⟩
  | [tag] => ⟨tag, 0, []⟩
  | [] => ⟨0, 0, []⟩

/-- The two check bytes agree with the sum from the length byte to the last payload byte (R146). -/
def checkAgrees (n : Nat) (body : List Byte) (high low : Byte) : Bool :=
  checkSum (byte n :: body) == 256 * high.toNat + low.toNat

/-- A byte of the control link at instant `t` (R147, R148). A complete frame is offered to the receive queue and
dispatched when a free place exists (R149, R150). -/
def receive (t : Ticks) (b : Byte) (s : State) : State :=
  match s.link.receiver with
  | .hunting => if b = 0x7E then receiveInto t .length s else s
  | .length => if within 2 250 b.toNat then receiveInto t (.body b.toNat []) s else discard s
  | .body n got =>
    receiveInto t (if n ≤ got.length + 1 then .check n (got ++ [b]) none else .body n (got ++ [b])) s
  | .check n body none => receiveInto t (.check n body (some b)) s
  | .check n body (some high) =>
    if checkAgrees n body high b then drainQueue (queueFrame (frameOf body) (hunt s)) else discard s

/-- BYTE_RECEIVED (R147). -/
def execByteReceived (t : Ticks) (b : Byte) (s : State) : Result :=
  whenRunning s fun s => receive t b (s.reach t)

/-- GAP_TIMER_EXPIRY (R148): a running gap timer expires and the frame is discarded. -/
def execGapTimerExpiry (s : State) : Result :=
  whenRunning s fun s =>
    match s.link.gap with
    | some t => discard (s.reach t)
    | none => s

/-! ### The transmitter (R152, R156 (4), R161) -/

/-- The idle transmitter takes the oldest queued reply, whose place becomes free, so that a waiting request is
dispatched; or otherwise the report the event unit offers (R150, R152, R161). -/
def beginSending (s : State) : State :=
  match s.link.sending, s.link.replies with
  | some _, _ => s
  | none, r :: rest => drainQueue (s.setLink { s.link with replies := rest, sending := some (.reply r) })
  | none, [] =>
    match s.events.offer with
    | some e => (s.setEvents (s.events.taken e)).setLink { s.link with sending := some (.report e) }
    | none => s

/-- TRANSMIT_START (R152). -/
def execTransmitStart (s : State) : Result := whenRunning s beginSending

/-- The frame being sent is the DONE reply of the Device Reset in progress. -/
def Link.sendsResetDone (l : Link) : Bool :=
  l.resetting &&
    match l.sending with
    | some (.reply r) => r.kind == 0x3F && r.status == .done
    | some (.report _) | none => false

/-- The reset of a Device Reset, carried out at instant `t` (R156 (4), R164). -/
def carryOutReset (t : Ticks) (s : State) : State := resetPart (max s.now t) [restartEntry .request] s

/-- The transmitter has sent the last byte of its frame and becomes idle; after the DONE reply of a Device Reset the
part resets (R152, R156 (4)). -/
def finishSending (t : Ticks) (s : State) : State :=
  if s.link.sendsResetDone then carryOutReset t s
  else if s.link.sending.isSome then (s.reach t).setLink { s.link with sending := none }
  else s

/-- TRANSMIT_COMPLETE (R152). -/
def execTransmitComplete (t : Ticks) (s : State) : Result := whenRunning s (finishSending t)

/-- DEVICE_RESET_EXECUTE (R156 (4)): it occurs once the last byte of the DONE reply has been sent. -/
def execDeviceResetExecute (t : Ticks) (s : State) : Result :=
  whenRunning s fun s => if s.link.sendsResetDone then carryOutReset t s else s

end Sys2Proof.Machine
end

