-- ==== Sys2Proof/Machine/Dispatch.lean ====
section
/-! DEFINITION. One arm for each command: the meaning of its row of the opcode table. -/

namespace Sys2Proof.Machine

def exec (i : Instr) (s : State) : Host.Outcome State Fault Refusal :=
  match i with
  | .inputSetup tag p => Sys2Proof.Machine.execInputSetup tag p s
  | .inputReset tag input => Sys2Proof.Machine.execInputReset tag input s
  | .inputQuery tag input clear => Sys2Proof.Machine.execInputQuery tag input clear s
  | .stillGrab tag input still => Sys2Proof.Machine.execStillGrab tag input still s
  | .stillDrop tag still => Sys2Proof.Machine.execStillDrop tag still s
  | .storeQuery tag view input => Sys2Proof.Machine.execStoreQuery tag view input s
  | .windowBind tag window scene => Sys2Proof.Machine.execWindowBind tag window scene s
  | .windowUnbind tag window => Sys2Proof.Machine.execWindowUnbind tag window s
  | .windowStage tag p => Sys2Proof.Machine.execWindowStage tag p s
  | .windowFreeze tag window freeze => Sys2Proof.Machine.execWindowFreeze tag window freeze s
  | .windowQuery tag window => Sys2Proof.Machine.execWindowQuery tag window s
  | .sceneStage tag p => Sys2Proof.Machine.execSceneStage tag p s
  | .sceneTakeFrame tag scene => Sys2Proof.Machine.execSceneTakeFrame tag scene s
  | .sceneTakeNow tag scene => Sys2Proof.Machine.execSceneTakeNow tag scene s
  | .sceneQuery tag scene => Sys2Proof.Machine.execSceneQuery tag scene s
  | .portSetup tag p => Sys2Proof.Machine.execPortSetup tag p s
  | .portAssignFrame tag port scene => Sys2Proof.Machine.execPortAssignFrame tag port scene s
  | .portAssignNow tag port scene => Sys2Proof.Machine.execPortAssignNow tag port scene s
  | .portHold tag port => Sys2Proof.Machine.execPortHold tag port s
  | .portResume tag port => Sys2Proof.Machine.execPortResume tag port s
  | .portQuery tag port => Sys2Proof.Machine.execPortQuery tag port s
  | .timingSetup tag rate source input => Sys2Proof.Machine.execTimingSetup tag rate source input s
  | .eventEnable tag enables masks => Sys2Proof.Machine.execEventEnable tag enables masks s
  | .eventAck tag event inst => Sys2Proof.Machine.execEventAck tag event inst s
  | .deviceQuery tag clear => Sys2Proof.Machine.execDeviceQuery tag clear s
  | .deviceReset tag => Sys2Proof.Machine.execDeviceReset tag s
  | .unknownKind tag kind payload => Sys2Proof.Machine.execUnknownKind tag kind payload s
  | .resetLineAssert => Sys2Proof.Machine.execResetLineAssert s
  | .resetLineDeassert t => Sys2Proof.Machine.execResetLineDeassert t s
  | .deviceResetExecute t => Sys2Proof.Machine.execDeviceResetExecute t s
  | .overrideAssert line => Sys2Proof.Machine.execOverrideAssert line s
  | .overrideDeassert line => Sys2Proof.Machine.execOverrideDeassert line s
  | .frameStart input t width height progressive => Sys2Proof.Machine.execFrameStart input t width height progressive s
  | .frameEnd input t flagged picture => Sys2Proof.Machine.execFrameEnd input t flagged picture s
  | .lossOfSignal input t => Sys2Proof.Machine.execLossOfSignal input t s
  | .missingFrameTimerExpiry input => Sys2Proof.Machine.execMissingFrameTimerExpiry input s
  | .stillGrabComplete input t picture => Sys2Proof.Machine.execStillGrabComplete input t picture s
  | .grabTimeout input => Sys2Proof.Machine.execGrabTimeout input s
  | .inputResetComplete input => Sys2Proof.Machine.execInputResetComplete input s
  | .outputFrameBoundary => Sys2Proof.Machine.execOutputFrameBoundary s
  | .outputLineStart => Sys2Proof.Machine.execOutputLineStart s
  | .timingSetupApply => Sys2Proof.Machine.execTimingSetupApply s
  | .sceneTakeApply scene => Sys2Proof.Machine.execSceneTakeApply scene s
  | .portAssignComplete port => Sys2Proof.Machine.execPortAssignComplete port s
  | .freezeOrderOn window => Sys2Proof.Machine.execFreezeOrderOn window s
  | .freezeOrderOff window => Sys2Proof.Machine.execFreezeOrderOff window s
  | .deadFramesEnd window => Sys2Proof.Machine.execDeadFramesEnd window s
  | .mixEnd window => Sys2Proof.Machine.execMixEnd window s
  | .tourExpiry window => Sys2Proof.Machine.execTourExpiry window s
  | .referencePulse t => Sys2Proof.Machine.execReferencePulse t s
  | .referenceTimeout => Sys2Proof.Machine.execReferenceTimeout s
  | .lockPointMidway input => Sys2Proof.Machine.execLockPointMidway input s
  | .holdoverExpiry => Sys2Proof.Machine.execHoldoverExpiry s
  | .byteReceived t b => Sys2Proof.Machine.execByteReceived t b s
  | .gapTimerExpiry => Sys2Proof.Machine.execGapTimerExpiry s
  | .transmitStart => Sys2Proof.Machine.execTransmitStart s
  | .transmitComplete t => Sys2Proof.Machine.execTransmitComplete t s

end Sys2Proof.Machine
end

