-- ==== Sys2Proof/WellFormed.lean ====
section
/-! DEFINITION. Which commands can be sent at all: every field fits the width its payload table gives it, a list
of fixed room fills its room, and a picture is one a link can deliver. A field outside its RANGE is well formed;
the part answers it. -/

namespace Sys2Proof

/-- The value fits a field of width 1. -/
def isByte (n : Nat) : Bool := n < 256

/-- The value fits a field of width 2. -/
def isWord (n : Nat) : Bool := n < 65536

/-- A colour fits its six bytes (Table 9.2). -/
def Colour.fits (c : Colour) : Bool := isWord c.y && isWord c.cb && isWord c.cr

/-- A rectangle fits its eight bytes (Table 9.2). -/
def Rect.fits (r : Rect) : Bool := isWord r.x && isWord r.y && isWord r.w && isWord r.h

/-- A pixel's components lie within 0–1023 (Table 0.3). -/
def Colour.inRange (c : Colour) : Bool := c.y ≤ 1023 && c.cb ≤ 1023 && c.cr ≤ 1023

/-- Addresses rise strictly, none is at or below `low`, none lies outside the raster, and no pixel is listed that
reads as black anyway: the one list for a picture. -/
def pictureFrom : Nat → Picture → Bool
  | _, [] => true
  | low, (a, c) :: rest => low ≤ a && a < 1920 * 1080 && c != ⟨64, 512, 512⟩ && pictureFrom (a + 1) rest

/-- The canonical form of a picture. -/
def Picture.canonical (p : Picture) : Bool := pictureFrom 0 p

/-- A picture a link can deliver. -/
def Picture.fits (p : Picture) : Bool := pictureFrom 0 p && p.all fun x => x.2.inRange

/-- Payload of Input Setup fits its 13 bytes. -/
def InputSetupFields.fits (p : InputSetupFields) : Bool :=
  [p.input, p.enable, p.ring, p.k, p.l, p.subst, p.still].all isByte && p.colour.fits

/-- Payload of Window Stage fits its 57 bytes. -/
def WindowStageFields.fits (p : WindowStageFields) : Bool :=
  [p.window, p.source, p.index, p.tourCount, p.cropMode, p.border, p.transition, p.count, p.delay].all isByte
    && [p.dwell, p.opacity].all isWord
    && p.entries.length == 8 && p.entries.all (fun e => isByte e.1 && isByte e.2)
    && p.crop.fits && p.dest.fits && p.borderColour.fits && p.fillColour.fits

/-- Payload of Scene Stage fits its 16 bytes. -/
def SceneStageFields.fits (p : SceneStageFields) : Bool :=
  [p.scene, p.count].all isByte && p.background.fits && p.windows.length == 8 && p.windows.all isByte

/-- Payload of Port Setup fits its nine bytes. -/
def PortSetupFields.fits (p : PortSetupFields) : Bool :=
  [p.port, p.enable, p.depth, p.range, p.protectA, p.protectB, p.action, p.index, p.restart].all isByte

/-- The request kinds of Table 9.5. -/
def listedKinds : List Nat :=
  [0x10, 0x11, 0x12, 0x18, 0x19, 0x1A, 0x20, 0x21, 0x22, 0x23, 0x24, 0x28, 0x29, 0x2A,
   0x30, 0x31, 0x32, 0x33, 0x34, 0x38, 0x3A, 0x3B, 0x3E, 0x3F]

/-- The check of a command. -/
def Instr.wellFormed : Instr → Bool
  | .inputSetup _ p => p.fits
  | .inputReset _ i => isByte i
  | .inputQuery _ i c => isByte i && isByte c
  | .stillGrab _ i e => isByte i && isByte e
  | .stillDrop _ e => isByte e
  | .storeQuery _ v i => isByte v && isByte i
  | .windowBind _ w k => isByte w && isByte k
  | .windowUnbind _ w => isByte w
  | .windowStage _ p => p.fits
  | .windowFreeze _ w f => isByte w && isByte f
  | .windowQuery _ w => isByte w
  | .sceneStage _ p => p.fits
  | .sceneTakeFrame _ k => isByte k
  | .sceneTakeNow _ k => isByte k
  | .sceneQuery _ k => isByte k
  | .portSetup _ p => p.fits
  | .portAssignFrame _ n k => isByte n && isByte k
  | .portAssignNow _ n k => isByte n && isByte k
  | .portHold _ n => isByte n
  | .portResume _ n => isByte n
  | .portQuery _ n => isByte n
  | .timingSetup _ r src i => isByte r && isByte src && isByte i
  | .eventEnable _ es ms => es.length == 7 && ms.length == 4 && es.all isByte && ms.all isByte
  | .eventAck _ e i => isByte e && isByte i
  | .deviceQuery _ c => isByte c
  | .deviceReset _ => true
  | .unknownKind _ k p => !listedKinds.contains k.toNat && p.length ≤ 248
  | .resetLineAssert => true
  | .resetLineDeassert _ => true
  | .deviceResetExecute _ => true
  | .overrideAssert _ => true
  | .overrideDeassert _ => true
  | .frameStart _ _ w h _ => isWord w && isWord h
  | .frameEnd _ _ _ p => p.fits
  | .lossOfSignal _ _ => true
  | .missingFrameTimerExpiry _ => true
  | .stillGrabComplete _ _ p => p.fits
  | .grabTimeout _ => true
  | .inputResetComplete _ => true
  | .outputFrameBoundary => true
  | .outputLineStart => true
  | .timingSetupApply => true
  | .sceneTakeApply _ => true
  | .portAssignComplete _ => true
  | .freezeOrderOn _ => true
  | .freezeOrderOff _ => true
  | .deadFramesEnd _ => true
  | .mixEnd _ => true
  | .tourExpiry _ => true
  | .referencePulse _ => true
  | .referenceTimeout => true
  | .lockPointMidway _ => true
  | .holdoverExpiry => true
  | .byteReceived _ _ => true
  | .gapTimerExpiry => true
  | .transmitStart => true
  | .transmitComplete _ => true

end Sys2Proof
end

