-- ==== Sys2Proof/Safety.lean ====
section
/-! DEFINITION. What the claims speak of: a link that takes a request at once, the shape of a replied and of a pending
request, and the invariants the part keeps. Nothing here stops a run: every command of the part leaves it in a next
state, so a run is safe while the invariants below hold. -/

namespace Sys2Proof.Machine

/-! ### The link as a request meets it -/

/-- A request frame that arrives now is dispatched at once: no reset holds the part, no frame waits before it, and a
place of the reply queue is free (R149, R150, R156, R157). -/
structure State.Ready (s : State) : Prop where
  running : s.resetLine = false
  serving : s.link.resetting = false
  empty : s.link.queue = []
  place : s.link.reserved + s.link.replies.length < 24

/-- `s` with one more reply queued (R151). -/
def State.replied (s : State) (tag kind : Byte) (status : Status) (data : List Byte) : State :=
  { s with link := { s.link with replies := s.link.replies ++ [⟨tag, kind, status, data⟩] } }

/-- `s` with one more entry in the pending request table and one more reserved place (R150, R153). -/
def State.entered (s : State) (tag : Byte) (t : PendingTarget) : State :=
  { s with link := { s.link with reserved := s.link.reserved + 1, table := s.link.table ++ [⟨tag, t⟩] } }

/-- `s` without the pending request `e`, which stands in the table after `before`, and with its reply queued in its
reserved place (R154). -/
def State.ended (s : State) (before after : List PendingRequest) (e : PendingRequest) (status : Status) : State :=
  { s with link := { s.link with
      table := before ++ after
      replies := s.link.replies ++ [⟨e.tag, e.target.kind, status, []⟩]
      reserved := s.link.reserved - 1 } }

/-- The bytes `bs` arrive on the control link, one after another, all at instant `t`; the answer is that of the last
(R147). -/
def receiveAll (t : Ticks) : List Byte → State → Result
  | [], s => .next s
  | b :: rest, s =>
    match exec (.byteReceived t b) s with
    | .next u => receiveAll t rest u
    | .fault r => .fault r
    | .refused r => .refused r

/-- The part at its reset values at instant `t` with the pending set given. Kept across a part-wide reset are the pixels
of the slots (Table 2.1 note 2), the levels of the override lines (R130), the commands that wait and the count of free
values taken (log entries 5 and 11). -/
def State.atReset (s : State) (t : Ticks) (entries : List Entry) (line : Bool) : State :=
  { State.reset with
    now := t
    slots := s.slots.map fun x => { Slot.reset with picture := x.picture }
    time := TimeBase.reset t s.time.freeUses
    events := EventUnit.reset entries
    overrideA := s.overrideA
    overrideB := s.overrideB
    resetLine := line
    pending := s.pending }

/-! ### Fields of query data, by offset -/

/-- A flag at an offset. -/
def FlagAt (p : List Byte) (k : Nat) (b : Bool) : Prop := at8 p k = if b then 1 else 0

/-- A number of one byte, or H'FF for none, at an offset. -/
def OptionAt (p : List Byte) (k : Nat) : Option Nat → Prop
  | some n => at8 p k = n % 256
  | none => at8 p k = 255

/-- A list in room for `room` entries of one byte, H'FF beyond its end, from an offset on. -/
def ListAt (p : List Byte) (k room : Nat) (l : List Nat) : Prop := ∀ j, j < room → OptionAt p (k + j) l[j]?

/-- A colour at an offset. -/
def ColourAt (p : List Byte) (k : Nat) (c : Colour) : Prop :=
  at16 p k = c.y % 65536 ∧ at16 p (k + 2) = c.cb % 65536 ∧ at16 p (k + 4) = c.cr % 65536

/-- A rectangle at an offset. -/
def RectAt (p : List Byte) (k : Nat) (r : Rect) : Prop :=
  at16 p k = r.x % 65536 ∧ at16 p (k + 2) = r.y % 65536 ∧ at16 p (k + 4) = r.w % 65536 ∧ at16 p (k + 6) = r.h % 65536

/-- A shown source at an offset (Table 5.5, SHOWN). -/
def ShownAt (p : List Byte) (k : Nat) : Shown → Prop
  | .input i => at8 p k = 0 ∧ at8 p (k + 1) = i % 256
  | .still e => at8 p k = 1 ∧ at8 p (k + 1) = e % 256
  | .fill => at8 p k = 2 ∧ at8 p (k + 1) = 0
  | .pattern => at8 p k = 3 ∧ at8 p (k + 1) = 0

/-- The 56 bytes of a copy from an offset on, SOURCE to DELAY (Tables 5.3 and 5.5 with its note 1). -/
structure CopyAt (p : List Byte) (k : Nat) (c : WindowConfig) : Prop where
  plain : ∀ src, c.source = .plain src → ShownAt p k src
  tour : c.source = .tour → at8 p k = 4 ∧ at8 p (k + 1) = 0
  count : at8 p (k + 2) = c.tourList.length % 256
  entries : ∀ j, j < 8 →
    (∀ e, c.tourList[j]? = some e → ShownAt p (k + 3 + 2 * j) e.shown) ∧
    (c.tourList.length ≤ j → at8 p (k + 3 + 2 * j) = 255 ∧ at8 p (k + 4 + 2 * j) = 255)
  dwell : at16 p (k + 19) = c.dwell % 65536
  whole : c.crop = .whole → ∀ j, j < 9 → at8 p (k + 21 + j) = 0
  crop : ∀ r, c.crop = .rect r → at8 p (k + 21) = 1 ∧ RectAt p (k + 22) r
  dest : RectAt p (k + 30) c.dest
  opacity : at16 p (k + 38) = c.opacity % 65536
  border : at8 p (k + 40) = c.border % 256
  borderColour : ColourAt p (k + 41) c.borderColour
  fillColour : ColourAt p (k + 47) c.fillColour
  cut : c.transition = .cut → at8 p (k + 53) = 0 ∧ at8 p (k + 54) = 0
  fill : ∀ n, c.transition = .fill n → at8 p (k + 53) = 1 ∧ at8 p (k + 54) = n % 256
  mix : ∀ n, c.transition = .mix n → at8 p (k + 53) = 2 ∧ at8 p (k + 54) = n % 256
  delay : at8 p (k + 55) = c.delay % 256

/-- The position of window `w` in a layer list, or H'FF, at an offset. -/
def LayerAt (p : List Byte) (k : Nat) (l : List Nat) (w : Nat) : Prop :=
  (w ∉ l → at8 p k = 255) ∧ ∀ below above, l = below ++ w :: above → w ∉ below → at8 p k = below.length % 256

/-- Input Query (Table 1.5). -/
structure InputReported (s : State) (i : Nat) (p : List Byte) : Prop where
  length : p.length = 30
  state : at8 p 0 = match (s.input i).state with
    | .off => 0 | .searching => 1 | .qualifying => 2 | .locked => 3 | .suspect => 4 | .unsupported => 5
  count : at8 p 1 = (s.input i).count % 256
  none_ : (s.input i).counted = none → ∀ j, 2 ≤ j → j ≤ 7 → at8 p j = 0
  counted : ∀ f, (s.input i).counted = some f →
    at16 p 2 = f.width % 65536 ∧ at16 p 4 = f.height % 65536
    ∧ (at8 p 6 = match f.rate with | .r24 => 24 | .r25 => 25 | .r30 => 30 | .r50 => 50 | .r60 => 60)
    ∧ at8 p 7 = if f.progressive then 1 else 2
  settings : at8 p 8 = (s.input i).ringLength % 256 ∧ at8 p 9 = (s.input i).k % 256 ∧ at8 p 10 = (s.input i).l % 256
  subst : at8 p 11 = match (s.input i).substKind with | .black => 0 | .fill => 1 | .pattern => 2 | .still => 3
  substitute : at8 p 12 = (s.input i).substStill % 256 ∧ ColourAt p 13 (s.input i).substColour
  reset : FlagAt p 19 (s.hasPending (·.isResetOf i))
  stored : 65536 * at16 p 20 + at16 p 22 = (s.input i).framesStored % 4294967296
  counters : at16 p 24 = (s.input i).framesBad % 65536 ∧ at16 p 26 = (s.input i).lockLosses % 65536
    ∧ at16 p 28 = (s.input i).sequence % 65536

/-- Store Query VIEW 0 (Table 2.6). -/
structure StoreReported (s : State) (p : List Byte) : Prop where
  length : p.length = 165
  free : at8 p 0 = ((List.range 96).filter fun n => (s.slot n).state == .free).length % 256
  ring : at8 p 1 = ((List.range 16).map fun i => (s.ring i).slots.length).sum % 256
  still : at8 p 2 = ((List.range 16).filter fun e => (s.still e).isSome).length % 256
  retiring : at8 p 3 = ((List.range 96).filter fun n => (s.slot n).state == .retiring).length % 256
  reserved : at8 p 4 = ((List.range 16).filter fun i => (s.reservation i).isSome).length % 256
  rings : ∀ i, i < 16 → at8 p (5 + 9 * i) = (s.ring i).slots.length % 256 ∧ ListAt p (6 + 9 * i) 8 (s.ring i).slots
  stills : ∀ e, e < 16 → OptionAt p (149 + e) (s.still e)

/-- Store Query VIEW 1 (Tables 2.7 and 2.8 with its note 2). -/
structure RingReported (s : State) (i : Nat) (p : List Byte) : Prop where
  length : p.length = 59
  slots : at8 p 0 = (s.ring i).slots.length % 256
  beyond : ∀ j, j < 8 → (s.ring i).slots.length ≤ j →
    at8 p (1 + 6 * j) = 255 ∧ ∀ d, 1 ≤ d → d ≤ 5 → at8 p (1 + 6 * j + d) = 0
  position : ∀ j n, j < 8 → (s.ring i).slots[j]? = some n →
    at8 p (1 + 6 * j) = n % 256
    ∧ (at8 p (2 + 6 * j) = match (s.slot n).state with
        | .free => 0 | .empty => 1 | .filling => 2 | .complete => 3 | .stale => 4 | .still => 5 | .retiring => 6)
    ∧ at8 p (3 + 6 * j) = (s.slot n).claims % 256 ∧ OptionAt p (4 + 6 * j) (s.slot n).pinned
    ∧ at16 p (5 + 6 * j) = (s.slot n).sequence % 65536
  age : at8 p 49 = (s.ring i).age.length % 256 ∧ ListAt p 50 8 (s.ring i).age
  reservation : OptionAt p 58 (s.reservation i)

/-- Window Query (Table 5.5). -/
structure WindowReported (s : State) (w : Nat) (p : List Byte) : Prop where
  length : p.length = 129
  bound : OptionAt p 0 (s.window w).binding
  staged : CopyAt p 1 (s.window w).staged
  live : CopyAt p 57 (s.window w).live
  shown : ShownAt p 113 (s.window w).shown
  none_ : (s.window w).trans = .none →
    at8 p 115 = 0 ∧ at8 p 116 = 0 ∧ at8 p 117 = 0 ∧ ∀ j, 118 ≤ j → j ≤ 121 → at8 p j = 255
  dead : ∀ r next, (s.window w).trans = .dead r next →
    at8 p 115 = 1 ∧ at8 p 116 = r % 256 ∧ at8 p 117 = 0 ∧ at8 p 118 = 255 ∧ at8 p 119 = 255 ∧ ShownAt p 120 next
  mix : ∀ k n old new, (s.window w).trans = .mix k n old new →
    at8 p 115 = 2 ∧ at8 p 116 = k % 256 ∧ at8 p 117 = n % 256 ∧ ShownAt p 118 old ∧ ShownAt p 120 new
  tour : at8 p 122 = (s.window w).tourPosition % 256 ∧ at16 p 123 = (s.window w).tourRemaining % 65536
  frozen : FlagAt p 125 (s.window w).frozen
  pin : OptionAt p 126 (s.pin w)
  unbound : (s.window w).binding = none → at8 p 127 = 255 ∧ at8 p 128 = 255
  layers : ∀ k, (s.window w).binding = some k →
    LayerAt p 127 (s.scene k).stagedList w ∧ LayerAt p 128 (s.scene k).liveList w

/-- Scene Query (Table 5.6); a scene is displayed as R141 decides. -/
structure SceneReported (s : State) (k : Nat) (p : List Byte) : Prop where
  length : p.length = 97
  staged : ColourAt p 0 (s.scene k).stagedBackground ∧ at8 p 6 = (s.scene k).stagedList.length % 256
    ∧ ListAt p 7 8 (s.scene k).stagedList
  live : ColourAt p 15 (s.scene k).liveBackground ∧ at8 p 21 = (s.scene k).liveList.length % 256
    ∧ ListAt p 22 8 (s.scene k).liveList
  pending : FlagAt p 30 (s.scene k).takePending
  displayed : (at8 p 31 = 1 ∨ at8 p 31 = 0) ∧ (at8 p 31 = 1 ↔ ∃ n, n < 12 ∧
    ((((s.port n).state = .normal ∨ (s.port n).state = .resuming) ∧ (s.port n).assigned = some k)
      ∨ ((s.port n).state = .protected_ ∧ (s.port n).action = .scene ∧ (s.port n).index = k)))
  bound : at8 p 32 = ((List.range 64).filter fun w => (s.window w).binding == some k).length % 256
    ∧ ListAt p 33 64 ((List.range 64).filter fun w => (s.window w).binding == some k)

/-- Port Query (Table 8.4). -/
structure PortReported (s : State) (n : Nat) (p : List Byte) : Prop where
  length : p.length = 18
  state : at8 p 0 = match (s.port n).state with
    | .disabled => 0 | .starting => 1 | .normal => 2 | .protected_ => 3 | .resuming => 4
  settings : FlagAt p 1 (s.port n).enable ∧ FlagAt p 2 (s.port n).depth10 ∧ FlagAt p 3 (s.port n).full
    ∧ FlagAt p 4 (s.port n).protectA ∧ FlagAt p 5 (s.port n).protectB
  action : at8 p 6 = match (s.port n).action with | .black => 0 | .still => 1 | .scene => 2
  index : at8 p 7 = (s.port n).index % 256
  restart : FlagAt p 8 (s.port n).auto
  assigned : OptionAt p 9 (s.port n).assigned
  pending : FlagAt p 10 (s.hasPending (·.isAssignOf n))
  causes : FlagAt p 11 (s.port n).causeA ∧ FlagAt p 12 (s.port n).causeB ∧ FlagAt p 13 (s.port n).hold
  lines : FlagAt p 14 s.overrideA ∧ FlagAt p 15 s.overrideB
  showing : at8 p 16 = match (s.port n).showing with | .black => 0 | .scene _ => 1 | .still _ => 2
  picture : at8 p 17 = match (s.port n).showing with | .black => 0 | .scene k => k % 256 | .still e => e % 256

/-- Device Query (Table 9.7). -/
structure DeviceReported (s : State) (p : List Byte) : Prop where
  length : p.length = 8
  timing : at8 p 0 = match s.time.timing with | .freeRun => 0 | .tracking => 1 | .holdover => 2
  rate : at8 p 1 = match s.time.rate with | .r50 => 0 | .r5994 => 1 | .r60 => 2
  source : at8 p 2 = match s.time.source with | .free => 0 | .reference => 1 | .input _ => 2
  input : at8 p 3 = match s.time.source with | .free => 0 | .reference => 0 | .input i => i % 256
  free : at8 p 4 = ((List.range 96).filter fun n => (s.slot n).state == .free).length % 256
  pending : at8 p 5 = s.link.table.length % 256
  errors : at16 p 6 = s.link.errors % 65536

/-! ### Invariants -/

/-- Every waiting command is well formed. -/
def Commanded (s : State) : Prop := ∀ c ∈ s.pending, c.wellFormed = true

/-- Two pending requests that the table never holds together: two takes of one scene, two assigns of one port, two grabs
of one input or into one still entry, two resets of one input (R153). -/
def PendingTarget.clashes : PendingTarget → PendingTarget → Bool
  | .take j _, .take k _ => j == k
  | .assign m _, .assign n _ => m == n
  | .grab i d _, .grab j e _ => i == j || d == e
  | .reset i, .reset j => i == j
  | _, _ => false

/-- The bounds of the link interface (R149, R150, R153): the receive queue, the reply places, one reserved place for
each pending request, the table with one request for a target, and the error counter; a scene's take pending flag says
that the table holds a take of it (R81); during a Device Reset nothing waits (R156). -/
structure LinkBounded (s : State) : Prop where
  queue : s.link.queue.length ≤ 4
  places : s.link.reserved + s.link.replies.length ≤ 24
  reserved : s.link.reserved = s.link.table.length
  table : s.link.table.length ≤ 16
  errors : s.link.errors ≤ 65535
  emptied : s.link.resetting = true → s.link.queue = [] ∧ s.link.table = []
  single : s.link.table.Pairwise fun a b => a.target.clashes b.target = false
  flags : s.link.resetting = false → ∀ k, k < 16 →
    ((s.scene k).takePending = true ↔ s.hasPending (·.isTakeOf k) = true)

/-- The pending set (R158, R159): at most one entry for a kind and instance, in order of level, each instance fitting
its kind, each count within 1–65535, and no reported entry but of a held kind. -/
structure PendingSetOrdered (s : State) : Prop where
  single : s.events.entries.Pairwise fun a b => a.event.sameEntry b.event = false
  sorted : s.events.entries.Pairwise fun a b => a.event.level ≤ b.event.level
  fits : ∀ e ∈ s.events.entries, ackFits e.event.code e.event.number = true
  counts : ∀ e ∈ s.events.entries, 1 ≤ e.count ∧ e.count ≤ 65535
  reported : ∀ e ∈ s.events.entries, e.reported = true → e.event.held = true

/-- The causes of one port against the levels of the override lines (R132, R133, R134, R138). -/
structure PortSound (s : State) (p : Nat) : Prop where
  enable : (s.port p).enable = true ↔ (s.port p).state ≠ .disabled
  disabled : (s.port p).state = .disabled → (s.port p).noCause = true
  lineA : (s.port p).state ≠ .disabled → (s.port p).causeA = ((s.port p).protectA && s.overrideA)
  lineB : (s.port p).state ≠ .disabled → (s.port p).causeB = ((s.port p).protectB && s.overrideB)
  outside : (s.port p).state ≠ .protected_ → (s.port p).noCause = true
  automatic : (s.port p).state = .protected_ → (s.port p).auto = true → (s.port p).noCause = false

/-- The cause set of every port follows the lines; while the RESET line is asserted every port is DISABLED. -/
structure PortCausesFollowLines (s : State) : Prop where
  sound : ∀ p, p < 12 → PortSound s p
  held : s.resetLine = true → ∀ p, p < 12 → (s.port p).state = .disabled

/-- Table 1.1 with R6 to R13: what each input state says of the count, the counted format, the timer and the frame in
progress, and the ranges of the settings; and a midway instant to come is that of a counted format of class 25 or 30,
half an interval of its class long (R64, Table 1.2). -/
structure InputSound (u : Input) : Prop where
  settings : 2 ≤ u.k ∧ u.k ≤ 15 ∧ 1 ≤ u.l ∧ u.l ≤ 15 ∧ 3 ≤ u.ringLength ∧ u.ringLength ≤ 8
  off : u.state = .off → u.frame = none ∧ u.lastStart = none ∧ u.midway = none
  unqualified : u.state = .off ∨ u.state = .searching → u.counted = none ∧ u.timer = none
  qualified : u.state ≠ .off → u.state ≠ .searching → u.counted.isSome = true ∧ u.timer.isSome = true
  counting : u.state = .qualifying ∨ u.state = .suspect → 1 ≤ u.count ∧ u.count ≤ 15
  still : u.state ≠ .qualifying → u.state ≠ .suspect → u.count = 0
  midway : ∀ t half, u.midway = some (t, half) → ∃ f, u.counted = some f ∧
    ((f.rate = .r25 ∧ 19800 * 135 ≤ half ∧ half ≤ 20200 * 135)
      ∨ (f.rate = .r30 ∧ 16500 * 135 ≤ half ∧ half ≤ 16850 * 135))

/-- Every capture unit is sound. -/
def InputsSound (s : State) : Prop := ∀ i, i < 16 → InputSound (s.input i)

/-- The output time base (R62 to R67, Table 4.1): the holdover count runs in HOLDOVER only and stays within 600; the
lock source FREE gives FREE_RUN, and any other is tracked exactly while it is present; REFERENCE is present only by a
pulse in the band; a boundary is scheduled in every state but TRACKING; the measured period lies within the bands of the
rate in force, and is there wherever a boundary is timed by it; the frame in progress has begun; and the boundary that
ends it leaves it no shorter than R62 allows. `settled` is not plain between an application of staged settings and the
boundary that it belongs to (log entries 2 and 22). -/
structure TimingSound (s : State) : Prop where
  counting : s.time.timing = .holdover → 1 ≤ s.time.holdover ∧ s.time.holdover ≤ 600
  still : s.time.timing ≠ .holdover → s.time.holdover = 0
  free : s.time.source = .free → s.time.timing = .freeRun
  present : s.time.source ≠ .free → (s.time.timing = .tracking ↔ s.lockPresent = true)
  reference : s.time.refPresent = true →
    ∃ p x, s.time.reference = some p ∧ p.interval = some x ∧ s.time.rate.inReferenceBand x = true
  scheduled : s.time.timing ≠ .tracking → s.time.nextBoundary.isSome = true
  band : ∀ m, s.time.measured = some m → s.time.rate.shortest ≤ m ∧ m ≤ s.time.rate.longest
  held : s.time.timing = .holdover → s.time.measured.isSome = true
  followed : s.time.timing = .tracking → s.time.settled ≠ .align → s.time.nextBoundary.isSome = true →
    s.time.measured.isSome = true
  began : s.time.frameBegan ≤ s.now
  spaced : s.time.settled = .plain → ∀ b, s.time.nextBoundary = some b →
    s.time.frameBegan + s.time.rate.shortest ≤ b

/-- One copy of a window's configuration (Table 5.1, R76, R77): a source TOUR has one to eight entries, and each
numbered field lies in its range. -/
structure ConfigSound (c : WindowConfig) : Prop where
  tour : c.source = .tour → 1 ≤ c.tourList.length ∧ c.tourList.length ≤ 8
  dwell : 1 ≤ c.dwell ∧ c.dwell ≤ 600
  opacity : c.opacity ≤ 256
  border : c.border ≤ 15
  delay : c.delay ≤ 6
  fill : ∀ n, c.transition = .fill n → 1 ≤ n ∧ n ≤ 63
  mix : ∀ n, c.transition = .mix n → 2 ≤ n ∧ n ≤ 255

/-- A transition in progress (R102, R103): dead frames remain, or the step of a MIX lies within its frames and the
sources mixed differ. -/
structure TransSound (x : TransState) : Prop where
  dead : ∀ r next, x = .dead r next → 1 ≤ r ∧ r ≤ 63
  mix : ∀ k n old new, x = .mix k n old new → 1 ≤ k ∧ k ≤ n ∧ 2 ≤ n ∧ n ≤ 255 ∧ old ≠ new

/-- The layer lists (R80), the copies of every window and its transition, the windows outside every live list (R74), and
the default record of an unbound window (R78, R82, R83). -/
structure SceneTablesSound (s : State) : Prop where
  staged : ∀ k, k < 16 → (s.scene k).stagedList.length ≤ 8 ∧ (s.scene k).stagedList.Nodup
    ∧ ∀ w ∈ (s.scene k).stagedList, w < 64 ∧ (s.window w).binding = some k
  live : ∀ k, k < 16 → (s.scene k).liveList.length ≤ 8 ∧ (s.scene k).liveList.Nodup
    ∧ ∀ w ∈ (s.scene k).liveList, w < 64 ∧ (s.window w).binding = some k
  copies : ∀ w, w < 64 → ConfigSound (s.window w).staged ∧ ConfigSound (s.window w).live
  moving : ∀ w, w < 64 → TransSound (s.window w).trans
  idle : ∀ w, w < 64 → s.inLive w = false →
    (s.window w).trans = .none ∧ (s.window w).tourRemaining = 0 ∧ (s.window w).frozen = false
  frozen : ∀ w, w < 64 → (s.window w).frozen = true → (s.window w).trans = .none
  unbound : ∀ w, w < 64 → (s.window w).binding = none → s.window w = Window.reset

/-- The record of slot `n` against the collection its owner names (R23 (2), R24): a slot is in exactly the collection
that its record names, and its state is one of that collection. -/
def SlotPlaced (s : State) (n : Nat) : Prop :=
  match (s.slot n).owner with
  | .none => (s.slot n).state = .free ∨ (s.slot n).state = .retiring
  | .input i => i < 16 ∧ n ∈ (s.ring i).slots ∧
      ((s.slot n).state = .empty ∨ (s.slot n).state = .filling ∨ (s.slot n).state = .complete
        ∨ (s.slot n).state = .stale)
  | .still e => e < 16 ∧ s.still e = some n ∧ (s.slot n).state = .still
  | .grab i => i < 16 ∧ s.reservation i = some n ∧ (s.slot n).state = .empty

/-- The frame store (R24, R26, R27, R32, R34, R41, R42, R51): every slot stands where its record says, every collection
holds slots that name it, an input is OFF exactly while it has no ring, and a ring has three to eight slots; a slot with
a claim or a pin is never FREE, EMPTY or FILLING, and its claims are at most 32; a ring has at most one FILLING slot,
and one only while a stored frame is in progress; the age list of a ring holds its COMPLETE slots that are not pinned,
all of them and each once, the fresh ones among them; at least three slots of a ring are not pinned; a window pin is a
COMPLETE slot of the ring of the frozen window's input whose pinned field says so; and a pending grab, one for an input,
names an input with a reservation and an entry. -/
structure StoreSound (s : State) : Prop where
  placed : ∀ n, n < 96 → SlotPlaced s n
  rings : ∀ i, i < 16 → (s.ring i).slots.Nodup ∧ ∀ n ∈ (s.ring i).slots, n < 96 ∧ (s.slot n).owner = .input i
  stills : ∀ e n, s.still e = some n → n < 96 ∧ (s.slot n).owner = .still e
  reservations : ∀ i n, s.reservation i = some n → n < 96 ∧ (s.slot n).owner = .grab i
  offs : ∀ i, i < 16 → ((s.input i).state = .off ↔ (s.ring i).slots = [])
  lengths : ∀ i, i < 16 → (s.ring i).slots ≠ [] → 3 ≤ (s.ring i).slots.length ∧ (s.ring i).slots.length ≤ 8
  held : ∀ n, n < 96 → (s.slot n).claims ≠ 0 ∨ (s.slot n).pinned.isSome = true →
    (s.slot n).state ≠ .free ∧ (s.slot n).state ≠ .empty ∧ (s.slot n).state ≠ .filling
  claims : ∀ n, n < 96 → (s.slot n).claims ≤ 32
  filling : ∀ i, i < 16 → ∀ m n, m ∈ (s.ring i).slots → n ∈ (s.ring i).slots →
    (s.slot m).state = .filling → (s.slot n).state = .filling → m = n
  writing : ∀ i, i < 16 → ∀ n, n ∈ (s.ring i).slots → (s.slot n).state = .filling →
    ∃ f, (s.input i).frame = some f ∧ f.stored = true
  ages : ∀ i, i < 16 → (s.ring i).age.Nodup ∧ ∀ n ∈ (s.ring i).age,
    n ∈ (s.ring i).slots ∧ (s.slot n).state = .complete ∧ (s.slot n).pinned = none
  fresh : ∀ i, i < 16 → (s.ring i).fresh ≤ (s.ring i).age.length
  aged : ∀ i, i < 16 → ∀ n ∈ (s.ring i).slots, (s.slot n).state = .complete → (s.slot n).pinned = none →
    n ∈ (s.ring i).age
  spare : ∀ i, i < 16 → (s.ring i).slots ≠ [] → 3 ≤ s.unpinned i
  pins : ∀ w n, s.pin w = some n → n < 96 ∧ (s.window w).frozen = true ∧ (s.slot n).state = .complete
    ∧ (s.slot n).pinned.isSome = true ∧ ∃ i, (s.window w).shown = .input i ∧ (s.slot n).owner = .input i
  pinned : ∀ n, n < 96 → ∀ w, (s.slot n).pinned = some w → s.pin w = some n
  grabs : ∀ e ∈ s.link.table, ∀ i d left, e.target = .grab i d left → i < 16 ∧ d < 16
  single : ∀ i, (s.link.table.filter fun e => e.target.isGrabOf i).length ≤ 1
  granted : ∀ i, s.hasPending (·.isGrabOf i) = true → (s.reservation i).isSome = true
  asked : s.link.resetting = false → ∀ i, (s.reservation i).isSome = true → s.hasPending (·.isGrabOf i) = true

/-- The frames held (Table 2.1 note 1, R4, R10): only supported formats are stored and locked on, and the pixels of a
slot are kept in their one canonical form. -/
structure StoredFramesSound (s : State) : Prop where
  formats : ∀ n, n < 96 → ∀ f, (s.slot n).format = some f → f.supported = true
  locked : ∀ i, i < 16 → (s.input i).state = .locked ∨ (s.input i).state = .suspect →
    ∃ f, (s.input i).counted = some f ∧ f.supported = true
  pictures : ∀ n, n < 96 → (s.slot n).picture.canonical = true

/-! ### Choices and claims -/

/-- What a source of window `w` is chosen as, with the part as it stands (R45 to R49, R52): a window frozen on an input
reads its pin, or the input's substitute where it has none; any other source is chosen by its kind. -/
def State.choiceFor (s : State) (withinFrame : Bool) (w : Nat) (src : Shown) : Choice :=
  match (s.window w).frozen, src, s.pin w with
  | true, .input _, some n => .slot n
  | true, .input i, none => chooseSubstitute i s
  | _, _, _ => chooseShown src (s.window w).live.delay withinFrame s

/-- The slot that choosing for this source claims: the chosen one, but none for a frozen window that reads its pin (R26,
R52). -/
def State.claimFor (s : State) (withinFrame : Bool) (w : Nat) (src : Shown) : Option Nat :=
  match (s.window w).frozen, src, s.pin w with
  | true, .input _, some _ => none
  | _, _, _ =>
    match s.choiceFor withinFrame w src with
    | .slot n => some n
    | .black | .fill | .colour _ | .pattern => none

/-- The window sources of scene `k`: each source of each window of its live list (R45). -/
def State.sourcesOf (s : State) (k : Nat) : List (Nat × Shown) :=
  (s.scene k).liveList.flatMap fun w => (s.window w).sources.map fun src => (w, src)

/-- The claims field after `count` more claims, each saturating at 32 (R26). -/
def claimsAfter (claims count : Nat) : Nat := if count = 0 then claims else min (claims + count) 32

/-! ### A ring marked stale -/

/-- What marking the ring of input `i` stale leaves of its slot `n` (R54): a COMPLETE slot that is not pinned is STALE,
a FILLING one is EMPTY, and any other is as it was. -/
structure MarkedStale (s t : State) (i n : Nat) : Prop where
  complete : (s.slot n).state = .complete → (s.slot n).pinned = none → t.slot n = { s.slot n with state := .stale }
  filling : (s.slot n).state = .filling →
    t.slot n = { s.slot n with state := .empty, owner := .input i, sequence := 0, format := none }
  other : (s.slot n).state ≠ .filling → (s.slot n).state ≠ .complete ∨ (s.slot n).pinned.isSome = true →
    t.slot n = s.slot n

/-- What the end of a frame that is not stored whole leaves of the slots (R44): where `stored` says that a slot of the
ring of input `i` was being filled, it is EMPTY, and every other slot is as it was. -/
structure FillingEmptied (s t : State) (i : Nat) (stored : Bool) : Prop where
  kept : stored = false ∨ (∀ n ∈ (s.ring i).slots, (s.slot n).state ≠ .filling) → t.slots = s.slots
  emptied : stored = true → ∀ before n after, (s.ring i).slots = before ++ n :: after → (s.slot n).state = .filling →
    (∀ m ∈ before, (s.slot m).state ≠ .filling) →
    t.slots = put s.slots n { s.slot n with state := .empty, owner := .input i, sequence := 0, format := none }

/-! ### Pins released -/

/-- The pins of the windows that `released` names are released and no others (R53): the slot of a released pin keeps
the lowest-numbered window that still pins it, and becomes STALE where none does. -/
structure PinsReleased (released : Nat → Prop) (s t : State) : Prop where
  gone : ∀ w, released w → t.pin w = none
  kept : ∀ w, ¬released w → t.pin w = s.pin w
  stale : ∀ w n, n < 96 → released w → s.pin w = some n → (∀ v, t.pin v ≠ some n) →
    (t.slot n).pinned = none ∧ (t.slot n).state = .stale
  shared : ∀ w n v, n < 96 → released w → s.pin w = some n → t.pin v = some n → (∀ u, u < v → t.pin u ≠ some n) →
    (t.slot n).pinned = some v ∧ (t.slot n).state = (s.slot n).state
  others : ∀ n, (∀ w, released w → s.pin w ≠ some n) →
    (t.slot n).pinned = (s.slot n).pinned ∧ (t.slot n).state = (s.slot n).state

/-! ### A take -/

/-- The take that leads from `s` to `t` unfreezes window `w`: it is bound to the scene, stood in its live list and was
frozen, and is frozen no more (R98, R99, R105). -/
def Unfreezes (s t : State) (k w : Nat) : Prop :=
  (s.window w).binding = some k ∧ w ∈ (s.scene k).liveList ∧ (s.window w).frozen = true ∧ (t.window w).frozen = false

/-- What applying a take to scene `k` leaves, with tours started at `f` boundaries a second (R98, R99, R105, R109), the
pins of the windows it unfreezes among it (R53). -/
structure TakeApplied (s t : State) (k f : Nat) : Prop where
  scene : (t.scene k).liveBackground = (s.scene k).stagedBackground ∧ (t.scene k).liveList = (s.scene k).stagedList
    ∧ (t.scene k).stagedBackground = (s.scene k).stagedBackground ∧ (t.scene k).stagedList = (s.scene k).stagedList
  others : ∀ j, j ≠ k → t.scene j = s.scene j
  unbound : ∀ w, w < 64 → (s.window w).binding ≠ some k → t.window w = s.window w
  copied : ∀ w, w < 64 → (s.window w).binding = some k → (t.window w).binding = some k
    ∧ (t.window w).staged = (s.window w).staged ∧ (t.window w).live = (s.window w).staged
  entering : ∀ w, w < 64 → (s.window w).binding = some k → w ∉ (s.scene k).liveList → w ∈ (s.scene k).stagedList →
    (t.window w).trans = .none ∧ (t.window w).frozen = false
    ∧ (∀ src, (s.window w).staged.source = .plain src → (t.window w).shown = src)
    ∧ ((s.window w).staged.source = .tour → (t.window w).tourPosition = 0
      ∧ (t.window w).tourPeriod = (s.window w).staged.dwell * f
      ∧ (t.window w).tourRemaining = (s.window w).staged.dwell * f
      ∧ ∀ e rest, (s.window w).staged.tourList = e :: rest → (t.window w).shown = e.shown)
  leaving : ∀ w, w < 64 → (s.window w).binding = some k → w ∈ (s.scene k).liveList → w ∉ (s.scene k).stagedList →
    (t.window w).shown = (s.window w).target ∧ (t.window w).trans = .none ∧ (t.window w).frozen = false
    ∧ (t.window w).tourPosition = 0 ∧ (t.window w).tourRemaining = 0 ∧ (t.window w).tourPeriod = 0
    ∧ (t.window w).freezeOrder = .none
  outside : ∀ w, w < 64 → (s.window w).binding = some k → w ∉ (s.scene k).liveList → w ∉ (s.scene k).stagedList →
    (t.window w).trans = (s.window w).trans ∧ (t.window w).frozen = (s.window w).frozen
    ∧ (∀ src, (s.window w).staged.source = .plain src → (t.window w).shown = src)
    ∧ (∀ e rest, (s.window w).staged.source = .tour → (s.window w).staged.tourList = e :: rest →
        (t.window w).shown = e.shown)
  untoured : ∀ w src, w < 64 → (s.window w).binding = some k → (s.window w).staged.source = .plain src →
    (t.window w).tourPosition = 0 ∧ (t.window w).tourPeriod = 0 ∧ (t.window w).tourRemaining = 0
  orders : ∀ w, w < 64 → (s.window w).binding = some k → w ∉ (s.scene k).liveList ∨ w ∈ (s.scene k).stagedList →
    (t.window w).freezeOrder = (s.window w).freezeOrder
  pins : PinsReleased (Unfreezes s t k) s t
  kept : ∀ w src, w < 64 → (s.window w).binding = some k → w ∈ (s.scene k).liveList → w ∈ (s.scene k).stagedList →
    (s.window w).staged.source = .plain src →
    (src = (s.window w).target → (t.window w).shown = (s.window w).shown ∧ (t.window w).trans = (s.window w).trans
      ∧ (t.window w).frozen = (s.window w).frozen)
    ∧ (src ≠ (s.window w).target → (t.window w).frozen = false
      ∧ ((s.window w).staged.transition = .cut → (t.window w).shown = src ∧ (t.window w).trans = .none)
      ∧ (∀ n, (s.window w).staged.transition = .fill n →
          (t.window w).shown = (s.window w).target ∧ (t.window w).trans = .dead n src)
      ∧ (∀ n, (s.window w).staged.transition = .mix n →
          (t.window w).shown = (s.window w).target
          ∧ (t.window w).trans = .mix 1 n (s.window w).target src))
  tourStarts : ∀ w e rest, w < 64 → (s.window w).binding = some k → w ∈ (s.scene k).liveList →
    w ∈ (s.scene k).stagedList → (s.window w).staged.source = .tour → (s.window w).staged.tourList = e :: rest →
    ((s.window w).live.source ≠ .tour ∨ (s.window w).live.tourList ≠ (s.window w).staged.tourList
      ∨ (s.window w).live.dwell ≠ (s.window w).staged.dwell) →
    (t.window w).tourPosition = 0 ∧ (t.window w).tourPeriod = (s.window w).staged.dwell * f
    ∧ (t.window w).tourRemaining = (s.window w).staged.dwell * f ∧ (t.window w).target = e.shown
    ∧ (t.window w).frozen = false
  tourContinues : ∀ w, w < 64 → (s.window w).binding = some k → w ∈ (s.scene k).liveList →
    w ∈ (s.scene k).stagedList → (s.window w).staged.source = .tour → (s.window w).live.source = .tour →
    (s.window w).live.tourList = (s.window w).staged.tourList →
    (s.window w).live.dwell = (s.window w).staged.dwell →
    (t.window w).tourPosition = (s.window w).tourPosition ∧ (t.window w).tourPeriod = (s.window w).tourPeriod
    ∧ (t.window w).tourRemaining = (s.window w).tourRemaining ∧ (t.window w).target = (s.window w).target
    ∧ (t.window w).frozen = (s.window w).frozen

/-- A window that changes its source to `next` through its live transition, any transition in progress completed first
(R99, R102 to R104). -/
def Window.movesTo (x : Window) (next : Shown) : Window :=
  match x.live.transition with
  | .cut => { x with shown := next, trans := .none }
  | .fill n => { x with shown := x.target, trans := .dead n next }
  | .mix n => { x with shown := x.target, trans := .mix 1 n x.target next }

/-! ### The time base between boundaries -/

/-- What the time base does when presence of the lock source was `was` and is now as in `t`, `a` and `e` being the time
base and the event unit that the event itself left (R65 to R67, R70). A source that becomes present brings TRACKING,
with the boundary of the frame in progress cancelled. One that becomes absent in TRACKING brings HOLDOVER with count 10
× F and the measured period held; the boundary scheduled stays, and one that alignment had cancelled falls one held
period after the frame began, or at once where that instant has passed (log entry 6); a period never measured is a free
value within the bands of the rate (log entry 5). -/
structure TimeFollows (was : Bool) (a : TimeBase) (e : EventUnit) (t : State) : Prop where
  gained : was = false → t.lockPresent = true → a.timing ≠ .tracking →
    t.time = { a with timing := .tracking, nextBoundary := none, afterNext := none, holdover := 0, settled := .plain }
    ∧ t.events = e.raised (.timing .tracking)
  lost : was = true → t.lockPresent = false → a.timing = .tracking →
    (∃ m, t.time.measured = some m ∧
      t.time = { a with
        timing := .holdover, holdover := 10 * a.rate.factor, measured := some m, freeUses := t.time.freeUses
        nextBoundary := some (a.nextBoundary.getD (max t.now (a.frameBegan + m))) } ∧
      (∀ x, a.measured = some x → m = x ∧ t.time.freeUses = a.freeUses) ∧
      (a.measured = none → a.rate.shortest ≤ m ∧ m ≤ a.rate.longest))
    ∧ t.events = e.raised (.timing .holdover)
  stays : was = t.lockPresent ∨ (was = false ∧ a.timing = .tracking) ∨ (was = true ∧ a.timing ≠ .tracking) →
    t.time = a ∧ t.events = e

/-- What a lock point at instant `t` that measures `period` does to the time base, taken while its source is present in
TRACKING (R64, R66 (1), (2)). While alignment waits it ends a frame that is at least one nominal period long, by a
boundary due at its own instant (log entry 19). After alignment it takes the boundary at its own time; less than half a
nominal period after the last boundary it only moves the next one; and before the shortest frame of R62 has passed the
boundary waits for it, with the one after it one measured period after the lock point. -/
structure LockPointTaken (a b : TimeBase) (t period : Ticks) : Prop where
  rest : b = { a with measured := some period, nextBoundary := b.nextBoundary, afterNext := b.afterNext }
  aligns : a.nextBoundary = none → a.frameBegan + a.rate.period ≤ t → b.nextBoundary = some t ∧ b.afterNext = none
  waits : a.nextBoundary = none → t < a.frameBegan + a.rate.period →
    b.nextBoundary = none ∧ b.afterNext = a.afterNext
  moves : a.nextBoundary ≠ none → 2 * t < 2 * a.frameBegan + a.rate.period →
    b.nextBoundary = some (t + period) ∧ b.afterNext = none
  delays : a.nextBoundary ≠ none → 2 * a.frameBegan + a.rate.period ≤ 2 * t → t < a.frameBegan + a.rate.shortest →
    b.nextBoundary = some (a.frameBegan + a.rate.shortest) ∧ b.afterNext = some (t + period)
  takes : a.nextBoundary ≠ none → a.frameBegan + a.rate.shortest ≤ t → b.nextBoundary = some t ∧ b.afterNext = none

/-! ### The end of a frame -/

/-- What a frame end that stores no frame leaves, the unit of input `i` being `v` after it and `stored` saying that a
slot was being filled, which is then EMPTY (R14, R44). -/
structure UnstoredEnd (s t : State) (i : Nat) (v : Input) (stored : Bool) : Prop where
  frame : t = { s with
    now := t.now, inputs := put s.inputs i v, slots := t.slots, time := t.time, events := t.events }
  slots : FillingEmptied s t i stored
  events : TimeFollows s.lockPresent s.time
    (if (s.input i).state = v.state then s.events else s.events.raised (.inputState i v.state v.counted)) t

/-- A unit after one bad-frame event: Table 1.3 with the counters of R16. -/
def Input.afterBad (u : Input) : Input :=
  let counted := { u with framesBad := min (u.framesBad + 1) 65535 }
  let searching := { counted with state := .searching, counted := none, count := 0, timer := none, midway := none }
  let lost := { searching with lockLosses := min (u.lockLosses + 1) 65535 }
  match u.state with
  | .off | .searching => u
  | .qualifying | .unsupported => searching
  | .locked => if u.l = 1 then lost else { counted with state := .suspect, count := 1, midway := none }
  | .suspect => if u.count + 1 < u.l then { counted with count := u.count + 1 } else lost

/-- What one bad-frame event of input `i` leaves, `u` being the unit without its frame in progress and with the timer as
the event left it (R9, R11 to R14, R16, R36, R44, R54). INPUT LOST before TIMING, both of level 1, is the model's order
(log entry 15). -/
structure BadFrameTaken (s t : State) (i : Nat) (u : Input) : Prop where
  unit : t.input i = u.afterBad
  others : ∀ j, j ≠ i → t.input j = s.input j ∧ t.ring j = s.ring j ∧ t.reservation j = s.reservation j
  frame : t = { s with
    now := t.now, inputs := t.inputs, slots := t.slots, rings := t.rings, reservations := t.reservations
    time := t.time, link := t.link, events := t.events }
  outside : ∀ n, n ∉ (s.ring i).slots → s.reservation i ≠ some n → t.slot n = s.slot n
  holds : ∀ n, (t.slot n).picture = (s.slot n).picture ∧ (t.slot n).claims = (s.slot n).claims
    ∧ (t.slot n).pinned = (s.slot n).pinned
  kept : u.state = .searching ∨ u.afterBad.state ≠ .searching →
    t.link = s.link ∧ t.reservations = s.reservations ∧ t.ring i = s.ring i
    ∧ FillingEmptied s t i (((s.input i).frame.map FrameInProgress.stored).getD false)
  lost : u.state ≠ .searching → u.afterBad.state = .searching →
    t.ring i = { s.ring i with age := [], fresh := 0 }
    ∧ (∀ n ∈ (s.ring i).slots, n < 96 → (s.hasPending (·.isGrabOf i) = true → s.reservation i ≠ some n) →
        MarkedStale s t i n)
    ∧ (s.hasPending (·.isGrabOf i) = false → t.link = s.link ∧ t.reservations = s.reservations)
    ∧ (∀ before q after, s.link.table = before ++ q :: after → q.target.isGrabOf i = true →
        (∀ x ∈ before ++ after, x.target.isGrabOf i = false) →
        t.link = (s.ended before after q .sourceLost).link ∧ t.reservation i = none
        ∧ ∀ n, s.reservation i = some n → n < 96 → (t.slot n).state = .free)
  events :
    let lost := if (u.state = .locked ∨ u.state = .suspect) ∧ u.afterBad.state = .searching
      then s.events.raised (.inputLost i u.afterBad.lockLosses) else s.events
    TimeFollows s.lockPresent s.time
      (if u.state = u.afterBad.state then lost else lost.raised (.inputState i u.afterBad.state u.afterBad.counted)) t

/-! ### The output frame boundary -/

/-- The part after the time base and the frame store have taken the boundary at `b` (R29, R37, R41, R69, R70): claims
are released, the retiring set is freed, the fresh counts are 0, every timeout count is one less, and a grab that runs
out gives its reservation back. -/
structure BoundaryOpened (s t : State) (b : Ticks) : Prop where
  frame : t = { s with
    now := max s.now b, time := t.time, events := t.events, slots := t.slots, rings := t.rings
    reservations := t.reservations, link := { s.link with
      table := s.link.table.map fun e => match e.target with
        | .grab i d left => { e with target := .grab i d (left - 1) }
        | .take .. | .assign .. | .reset _ => e } }
  events : t.events = if t.time.timing = s.time.timing then s.events else s.events.raised (.timing t.time.timing)
  rings : ∀ i, t.ring i = { s.ring i with fresh := 0 }
  expired : ∀ q ∈ s.link.table, ∀ i d left, q.target = .grab i d left → left ≤ 1 → t.reservation i = none
    ∧ ∀ n, n < 96 → s.reservation i = some n → t.slot n = { s.slot n with
        state := .free, owner := .none, sequence := 0, format := none, claims := 0 }
  reservations : ∀ i, (∀ q ∈ s.link.table, ∀ d left, q.target = .grab i d left → 2 ≤ left) →
    t.reservation i = s.reservation i
  slots : ∀ n, n < 96 →
    (∀ q ∈ s.link.table, ∀ i d left, q.target = .grab i d left → left ≤ 1 → s.reservation i ≠ some n) →
    t.slot n = if (s.slot n).state = .retiring
      then { s.slot n with state := .free, owner := .none, sequence := 0, format := none, claims := 0 }
      else { s.slot n with claims := 0 }

/-- A window after one more boundary of its transition (R102, R103). -/
def Window.advanced (x : Window) : Window :=
  match x.trans with
  | .none => x
  | .dead r next => if 1 < r then { x with trans := .dead (r - 1) next } else { x with shown := next, trans := .none }
  | .mix k n old new =>
    if k < n then { x with trans := .mix (k + 1) n old new } else { x with shown := new, trans := .none }

/-- At this boundary the tour of window `w` expires and steps to position `q`, its entry `e` being the next eligible one
(R110, R111). -/
def StepsTo (s : State) (w q : Nat) (e : TourEntry) : Prop :=
  let x := s.window w
  let list := x.live.tourList
  w < 64 ∧ s.inLive w = true ∧ x.frozen = false ∧ x.live.source = .tour ∧ x.tourRemaining ≤ 1 ∧
  ∃ d, 1 ≤ d ∧ d < list.length ∧ q = (x.tourPosition + d) % list.length ∧ list[q]? = some e ∧ s.eligible e = true ∧
    ∀ d', 1 ≤ d' → d' < d → ∀ other, list[(x.tourPosition + d') % list.length]? = some other → s.eligible other = false

/-- Step (1) of the scene tables at a boundary (R96 (1), R102, R103, R110 to R112): every window of a live list that is
not frozen advances its transition and its tour, and TOUR STEP is raised for each tour that steps, in increasing window
number (log entry 15 for the order). -/
structure Advanced (s t : State) : Prop where
  frame : t = { s with windows := t.windows, events := t.events }
  idle : ∀ w, w < 64 → s.inLive w = false ∨ (s.window w).frozen = true → t.window w = s.window w
  plain : ∀ w, w < 64 → s.inLive w = true → (s.window w).frozen = false → (s.window w).live.source ≠ .tour →
    t.window w = (s.window w).advanced
  counts : ∀ w, w < 64 → s.inLive w = true → (s.window w).frozen = false → (s.window w).live.source = .tour →
    2 ≤ (s.window w).tourRemaining →
    t.window w = { (s.window w).advanced with tourRemaining := (s.window w).tourRemaining - 1 }
  steps : ∀ w q e, StepsTo s w q e →
    let y := { (s.window w).advanced with tourRemaining := (s.window w).tourPeriod, tourPosition := q }
    t.window w = if e.shown = y.target then y else y.movesTo e.shown
  remains : ∀ w, w < 64 → s.inLive w = true → (s.window w).frozen = false → (s.window w).live.source = .tour →
    (s.window w).tourRemaining ≤ 1 → (∀ q e, ¬StepsTo s w q e) →
    t.window w = { (s.window w).advanced with tourRemaining := (s.window w).tourPeriod }
  raised : ∃ steps : List (Nat × Nat × TourEntry), (steps.map fun x => x.1).Pairwise (· < ·)
    ∧ (∀ w q e, (w, q, e) ∈ steps ↔ StepsTo s w q e)
    ∧ t.events = steps.foldl (fun u x => u.raised (.tourStep x.1 x.2.1 x.2.2.shown)) s.events

/-- Step (2): the pending FRAME takes are applied one after another, each with its scene and its recorded F, and their
take pending flags cleared (R96 (2), R100). -/
def TakesApplied : List (Nat × Nat) → State → State → Prop
  | [], s, t => t = s
  | (k, f) :: rest, s, t => ∃ u, TakeApplied s u k f ∧ (u.scene k).takePending = false
      ∧ u = { s with scenes := u.scenes, windows := u.windows, pins := u.pins, slots := u.slots }
      ∧ (∀ n, u.slot n = { s.slot n with state := (u.slot n).state, pinned := (u.slot n).pinned })
      ∧ TakesApplied rest u t

/-- Step (3): every freeze order is carried out (R96 (3), R104, R107, R108). An order ON acts on a window that stands in
the live list and is not frozen; an order OFF unfreezes, with the pin released. -/
structure FreezesCarriedOut (s t : State) : Prop where
  frame : t = { s with windows := t.windows, pins := t.pins, slots := t.slots }
  slots : ∀ n, t.slot n = { s.slot n with state := (t.slot n).state, pinned := (t.slot n).pinned }
  none_ : ∀ w, w < 64 → (s.window w).freezeOrder = .none → t.window w = s.window w
  on : ∀ w, w < 64 → (s.window w).freezeOrder = .on →
    (s.inLive w = true → (s.window w).frozen = false → t.window w = { s.window w with
      freezeOrder := .none, shown := (s.window w).target, trans := .none, frozen := true }) ∧
    (s.inLive w = false ∨ (s.window w).frozen = true → t.window w = { s.window w with freezeOrder := .none })
  off : ∀ w, w < 64 → (s.window w).freezeOrder = .off →
    t.window w = { s.window w with freezeOrder := .none, frozen := false }
  pins : PinsReleased (fun w => (s.window w).freezeOrder = .off ∧ (s.window w).frozen = true) s t

/-- What the boundary leaves of port `p` (R135, R141): a pending FRAME assign is stored, STARTING and RESUMING settle to
NORMAL, the picture of the new frame is chosen, and no line of it has started. That a PROTECTED port with action STILL
has the still as its picture even where the entry is empty is the model's choice (log entry 31). -/
structure PortAtBoundary (s t : State) (p : Nat) : Prop where
  rest : t.port p = { s.port p with
    assigned := (t.port p).assigned, showing := (t.port p).showing, line := none
    state := if (s.port p).state = .starting ∨ (s.port p).state = .resuming then .normal else (s.port p).state }
  assigned : ∀ before e after k, s.link.table = before ++ e :: after → e.target = .assign p k →
    (∀ x ∈ before, x.target.isAssignOf p = false) → (t.port p).assigned = k
  unassigned : s.hasPending (·.isAssignOf p) = false → (t.port p).assigned = (s.port p).assigned
  normal : (t.port p).state = .normal →
    (∀ k, (t.port p).assigned = some k → (t.port p).showing = .scene k) ∧
    ((t.port p).assigned = none → (t.port p).showing = .black)
  protected_ : (t.port p).state = .protected_ →
    ((s.port p).action = .black → (t.port p).showing = .black) ∧
    ((s.port p).action = .still → (t.port p).showing = .still (s.port p).index) ∧
    ((s.port p).action = .scene → (t.port p).showing = .scene (s.port p).index)
  disabled : (t.port p).state = .disabled → (t.port p).showing = .black

/-- The claim and the pin of a window whose freeze takes effect at the boundary, `age` holding the age lists before the
first pin (R51). A window not frozen any more, or not on an input that can supply a frame, gets none; a pin that would
leave fewer than three slots unpinned is not made and the window is unfrozen; any other takes the slot of its rank out
of the age list, and claims and records it where its scene is composed (R107). -/
structure PinTaken (age : Nat → List Nat) (s t : State) (w : Nat) : Prop where
  unfrozen : (s.window w).frozen = false ∨ (∀ i, (s.window w).shown ≠ .input i) → t = s
  substitute : ∀ i, (s.window w).shown = .input i → s.able i = false ∨ age i = [] → t = s
  ranked : ∀ i newer n older, (s.window w).frozen = true → (s.window w).shown = .input i → s.able i = true →
    age i = newer ++ n :: older →
    newer.length = min (min (s.window w).live.delay (s.unpinned i - 3)) ((age i).length - 1) →
    ((s.slot n).pinned = none → s.unpinned i < 4 →
      t = { s with windows := put s.windows w { s.window w with frozen := false } }) ∧
    (w < 64 → n < 96 → i < 16 → (s.slot n).pinned.isSome = true ∨ 4 ≤ s.unpinned i →
      t = { s with
        pins := put s.pins w (some n), rings := put s.rings i ((s.ring i).leave n), slots := t.slots, comp := t.comp } ∧
      t.slot n = { s.slot n with pinned := (t.slot n).pinned, claims := (t.slot n).claims } ∧
      (∃ v, (t.slot n).pinned = some v ∧ t.pin v = some n ∧ ∀ u, u < v → t.pin u ≠ some n) ∧
      (∀ m, m ≠ n → t.slot m = s.slot m) ∧
      (s.inComposed w = false → t.comp = s.comp ∧ (t.slot n).claims = (s.slot n).claims) ∧
      (s.inComposed w = true → (t.slot n).claims = min ((s.slot n).claims + 1) 32 ∧ t.comp = { s.comp with
        record := (s.comp.record.filter fun e => !e.isOf w (.input i)) ++ [⟨w, .input i, .slot n⟩] }))

/-- The windows of the list take their pins one after another (R51). -/
def PinsTaken (age : Nat → List Nat) : List Nat → State → State → Prop
  | [], s, t => t = s
  | w :: rest, s, t => ∃ u, PinTaken age s u w ∧ PinsTaken age rest u t

/-- The claims of a boundary, made after the pins (R45 to R48, R52, R135, R141): the claim record holds a choice for
every source of every window of every composed scene and nothing else; each PROTECTED port with action STILL holds its
entry's slot; and each choice of a slot and each such port adds one claim to it. -/
structure ClaimsMade (s t : State) : Prop where
  frame : t = { s with slots := t.slots, comp := t.comp }
  slots : ∀ n, t.slot n = { s.slot n with claims := (t.slot n).claims }
  composed : t.comp.composed = s.comp.composed
  chosen : ∀ k ∈ s.comp.composed, ∀ w src, s.uses k w src = true →
    t.recorded w src = some (s.choiceFor false w src)
  empty : ∀ w src, (∀ k ∈ s.comp.composed, s.uses k w src = false) → t.recorded w src = none
  portStill : ∀ p, p < 12 → look t.comp.portStill p none =
    if (s.port p).state = .protected_ ∧ (s.port p).action = .still then s.still (s.port p).index else none
  claims : SceneTablesSound s → ∀ n, n < 96 → (t.slot n).claims = claimsAfter (s.slot n).claims
    (((s.comp.composed.flatMap s.sourcesOf).filter fun x => s.claimFor false x.1 x.2 == some n).length
      + ((List.range 12).filter fun p =>
          (s.port p).state == .protected_ && (s.port p).action == .still && s.still (s.port p).index == some n).length)

/-! ### Colours -/

/-- The components of both colours of a copy lie within 0–1023. -/
def WindowConfig.coloursInRange (c : WindowConfig) : Prop :=
  c.borderColour.inRange = true ∧ c.fillColour.inRange = true

/-- Every component that the part holds and composition can come to read lies within 0–1023 (Table 0.3): the pixels of
the slots, the colours of both copies of the windows and scenes, the substitute colours, and those in the claim
record. -/
structure ColoursInRange (s : State) : Prop where
  pictures : ∀ n, (s.slot n).picture.all (fun x => x.2.inRange) = true
  substitutes : ∀ i, (s.input i).substColour.inRange = true
  choices : ∀ e ∈ s.comp.record, ∀ c, e.choice = .colour c → c.inRange = true
  scenes : ∀ k, (s.scene k).stagedBackground.inRange = true ∧ (s.scene k).liveBackground.inRange = true
  windows : ∀ w, (s.window w).staged.coloursInRange ∧ (s.window w).live.coloursInRange

end Sys2Proof.Machine
end

