-- ==== Sys2Proof/Certificates/Slice0/Obligations.lean ====
section
/-! DEFINITION. The statements for the provers. Each is one definition; OBLIGATIONS.json gives its rule, its title and
what it says in words. A hypothesis that is an invariant of the part has a statement of its own that every step keeps
it; each statement with hypotheses has a witness among the tests. -/

open Sys2Proof Sys2Proof.Machine

/-! ### Steps -/

/-- A step takes the command at the front of the queue and executes it on the state with the queue's rest; on an empty
queue the part idles, which is the model's choice (log entry 1). -/
def Obligations.StepTakesFrontCommand : Prop :=
  (∀ (c : Instr) (rest : List Instr) (s : State), s.pending = c :: rest →
    step s = exec c { s with pending := rest }) ∧
  ∀ s : State, s.pending = [] → step s = .next s

/-- Every command answers a next state, and none touches the queue of waiting commands: the model's own queue, and a
machine that never stops (log entry 18). -/
def Obligations.EveryCommandAnswersNext : Prop :=
  ∀ (c : Instr) (s : State), ∃ t, exec c s = .next t ∧ t.pending = s.pending

/-- While the RESET line is asserted no event is taken: only the deassertion of the line acts, and the override lines
keep their levels as inputs (R130, R157). -/
def Obligations.ResetLineStopsEveryEvent : Prop :=
  ∀ (c : Instr) (s : State), s.resetLine = true →
    ((∀ t, c ≠ .resetLineDeassert t) → (∀ l, c ≠ .overrideAssert l) → (∀ l, c ≠ .overrideDeassert l) →
      exec c s = .next s) ∧
    exec (.overrideAssert .a) s = .next { s with overrideA := true } ∧
    exec (.overrideAssert .b) s = .next { s with overrideB := true } ∧
    exec (.overrideDeassert .a) s = .next { s with overrideA := false } ∧
    exec (.overrideDeassert .b) s = .next { s with overrideB := false }

/-- A Device Reset at its dispatch empties the receive queue, ends every pending request with ABORTED in the order of
acceptance, queues DONE after them, and is in progress (R156 (1) to (3)). The three part-wide resets (R156 (4), R157,
R164): assertion of the RESET line leaves reset values with an empty
pending set; deassertion leaves them with a RESTART of cause LINE; the end of the DONE reply of a Device Reset leaves
them with a RESTART of cause REQUEST. -/
def Obligations.PartWideResetsGiveResetValues : Prop :=
  (∀ s : State, s.resetLine = false → exec .resetLineAssert s = .next (s.atReset s.now [] true)) ∧
  (∀ (t : Ticks) (s : State), s.resetLine = true →
    exec (.resetLineDeassert t) s = .next (s.atReset (max s.now t) [⟨.restart .line, 1, false⟩] false)) ∧
  (∀ (t : Ticks) (r : Reply) (s : State), s.resetLine = false → s.link.resetting = true →
    s.link.sending = some (.reply r) → r.kind = 0x3F → r.status = .done →
    exec (.deviceResetExecute t) s = .next (s.atReset (max s.now t) [⟨.restart .request, 1, false⟩] false) ∧
    exec (.transmitComplete t) s = .next (s.atReset (max s.now t) [⟨.restart .request, 1, false⟩] false)) ∧
  (∀ (tag : Byte) (s : State), s.Ready → LinkBounded s →
    exec (.deviceReset tag) s = .next { s with link := { s.link with
      queue := [], resetting := true, table := [], reserved := 0
      replies := s.link.replies ++ s.link.table.map (fun e => ⟨e.tag, e.target.kind, .aborted, []⟩)
        ++ [⟨tag, 0x3F, .done, []⟩] } })

/-- The values right after a reset (Tables 1.1, 2.1, 3.1, 4.1, 8.1; R27, R32, R50, R78, R79, R91, R115, R130, R157,
R164). -/
def Obligations.ResetStateHoldsTheTables : Prop :=
  (∀ i, i < 16 → State.reset.input i =
    { state := .off, counted := none, count := 0, timer := none, lastStart := none, frame := none, framesStored := 0,
      framesBad := 0, lockLosses := 0, sequence := 0, ringLength := 3, k := 5, l := 3, substKind := .black,
      substStill := 0, substColour := ⟨64, 512, 512⟩, midway := none }
    ∧ State.reset.ring i = ⟨[], [], 0⟩ ∧ State.reset.still i = none ∧ State.reset.reservation i = none) ∧
  (∀ n, n < 96 → (State.reset.slot n).state = .free ∧ (State.reset.slot n).owner = .none
    ∧ (State.reset.slot n).sequence = 0 ∧ (State.reset.slot n).format = none ∧ (State.reset.slot n).claims = 0
    ∧ (State.reset.slot n).pinned = none) ∧
  (∀ w, w < 64 → State.reset.pin w = none ∧ (State.reset.window w).binding = none
    ∧ (State.reset.window w).live = (State.reset.window w).staged
    ∧ (State.reset.window w).staged =
      { source := .plain .fill, tourList := [], dwell := 10, crop := .whole, dest := ⟨0, 0, 1920, 1080⟩, opacity := 256,
        border := 0, borderColour := ⟨64, 512, 512⟩, fillColour := ⟨64, 512, 512⟩, transition := .cut, delay := 0 }
    ∧ (State.reset.window w).shown = .fill ∧ (State.reset.window w).trans = .none
    ∧ (State.reset.window w).tourPosition = 0 ∧ (State.reset.window w).tourRemaining = 0
    ∧ (State.reset.window w).tourPeriod = 0 ∧ (State.reset.window w).frozen = false
    ∧ (State.reset.window w).freezeOrder = .none) ∧
  (∀ k, k < 16 → State.reset.scene k = ⟨⟨64, 512, 512⟩, ⟨64, 512, 512⟩, [], [], false⟩ ∧ State.reset.displayed k = false) ∧
  (∀ p, p < 12 → (State.reset.port p).state = .disabled ∧ (State.reset.port p).enable = false
    ∧ (State.reset.port p).depth10 = true ∧ (State.reset.port p).full = false ∧ (State.reset.port p).protectA = false
    ∧ (State.reset.port p).protectB = false ∧ (State.reset.port p).action = .black ∧ (State.reset.port p).auto = false
    ∧ (State.reset.port p).assigned = none ∧ (State.reset.port p).noCause = true
    ∧ (State.reset.port p).showing = .black) ∧
  State.reset.time.rate = .r60 ∧ State.reset.time.source = .free ∧ State.reset.time.staged = none ∧
  State.reset.time.timing = .freeRun ∧ State.reset.time.measured = none ∧ State.reset.time.holdover = 0 ∧
  State.reset.time.nextBoundary = some 2250000 ∧ State.reset.time.reference = none ∧
  State.reset.comp.record = [] ∧
  State.reset.link.receiver = .hunting ∧ State.reset.link.gap = none ∧ State.reset.link.queue = [] ∧
  State.reset.link.freePlaces = 24 ∧ State.reset.link.table = [] ∧ State.reset.link.sending = none ∧
  State.reset.link.errors = 0 ∧ State.reset.link.resetting = false ∧
  State.reset.events.entries = [⟨.restart .line, 1, false⟩] ∧
  (∀ code, 1 ≤ code → code ≤ 6 → State.reset.events.enabled code = true) ∧ State.reset.events.enabled 7 = false ∧
  (∀ level, State.reset.events.masked level = false) ∧ State.reset.alert = true

/-! ### The control link's frames -/

/-- The frame in which a host sends a well-formed request is read back as that request; a frame of a kind outside
Table 9.5 is answered UNKNOWN KIND (Tables 9.1, 9.2, 9.5; R146, R151). -/
def Obligations.RequestFramesAreReadBack : Prop :=
  ∀ (i : Instr) (f : Frame), i.wellFormed = true → requestFrame i = some f →
    askedOf f = match i with
      | .unknownKind .. => .refused .unknownKind
      | _ => .command i

/-- A request sent byte by byte does what the request's command does: a hunting receiver takes the bytes of the frame,
start mark, length and check included, and the part is then as after the command at the same instant (R146 to R151). -/
def Obligations.RequestBytesActAsTheRequest : Prop :=
  ∀ (i : Instr) (f : Frame) (t : Ticks) (s : State), i.wellFormed = true → requestFrame i = some f → s.Ready →
    s.link.receiver = .hunting → s.link.gap = none →
    receiveAll t (frameBytes f.tag f.kind f.payload) s = exec i (s.reach t)

/-! ### Invariants that every step keeps -/

/-- The bounds of the link interface, one pending request for a target, and the take pending flags (R81, R149, R150,
R153). -/
def Obligations.LinkStaysBounded : Prop :=
  ∀ s t : State, LinkBounded s → step s = .next t → LinkBounded t

/-- The order of the pending set (R158, R159). -/
def Obligations.PendingSetStaysOrdered : Prop :=
  ∀ s t : State, PendingSetOrdered s → step s = .next t → PendingSetOrdered t

/-- The cause sets of the ports (R132 to R134, R138). -/
def Obligations.PortCausesKeepFollowingLines : Prop :=
  ∀ s t : State, PortCausesFollowLines s → step s = .next t → PortCausesFollowLines t

/-- The capture units (Table 1.1, R6 to R13). -/
def Obligations.InputsStaySound : Prop :=
  ∀ s t : State, InputsSound s → step s = .next t → InputsSound t

/-- The output time base (R62 to R67, R69): its states against presence, its count, its measured period and its
schedule, which leaves no frame shorter than R62 allows. -/
def Obligations.TimingStaysSound : Prop :=
  ∀ s t : State, InputsSound s → TimingSound s → step s = .next t → TimingSound t

/-- The layer lists, the copies, the transitions and the windows outside every live list (R74, R76, R77, R80, R102,
R103). -/
def Obligations.SceneTablesStaySound : Prop :=
  ∀ s t : State, Commanded s → SceneTablesSound s → step s = .next t → SceneTablesSound t

/-- The partition of the frame store with its rings, age lists, claims, pins and grabs (R24, R26, R27, R32, R34, R41,
R42, R51). -/
def Obligations.FrameStoreStaysSound : Prop :=
  ∀ s t : State, LinkBounded s → SceneTablesSound s → StoreSound s → step s = .next t → StoreSound t

/-- Only supported formats are stored and locked on, every slot's pixels keep their one canonical form (R4, R10, Table
2.1 note 1; log entry 4 for the form), and every colour that the part holds stays within 0–1023, where every command
that waits is well formed (Tables 0.3, 1.4, 5.3, 5.4; R17, R122). -/
def Obligations.StoredFramesStaySound : Prop :=
  (∀ s t : State, StoredFramesSound s → step s = .next t → StoredFramesSound t) ∧
  ∀ s t : State, Commanded s → ColoursInRange s → step s = .next t → Commanded t ∧ ColoursInRange t

/-- The state right after reset meets every invariant. -/
def Obligations.ResetMeetsEveryInvariant : Prop :=
  LinkBounded State.reset ∧ PendingSetOrdered State.reset ∧ PortCausesFollowLines State.reset ∧
  InputsSound State.reset ∧ TimingSound State.reset ∧ Commanded State.reset ∧ SceneTablesSound State.reset ∧
  StoreSound State.reset ∧ StoredFramesSound State.reset ∧ ColoursInRange State.reset

/-- The five collections account for all 96 slots: the five counts of Store Query VIEW 0 (R24, Table 2.6). -/
def Obligations.SlotCountsAddUpTo96 : Prop :=
  ∀ s : State, StoreSound s →
    s.freeSlots.length + (s.rings.toList.map fun r => r.slots.length).sum + presentCount s.stills.toList
      + s.retiringSlots.length + presentCount s.reservations.toList = 96

/-! ### Writer and reader -/

/-- The writer chooses a slot of the ring that nothing holds, that is not FILLING and not the head of the age list: the
first EMPTY or STALE one in ring position order, otherwise the one nearest the tail of the age list. Where the ring has
such a slot it is chosen, and where it has none there is no write slot (R42). -/
def Obligations.WriterChoosesByRingThenAge : Prop :=
  ∀ (i : Nat) (s : State),
    let candidate := fun (n : Nat) => n ∈ (s.ring i).slots ∧ (s.slot n).claims = 0 ∧ (s.slot n).pinned = none
      ∧ (s.slot n).state ≠ .filling ∧ (s.ring i).age.head? ≠ some n
    let unused := fun (n : Nat) => (s.slot n).state = .empty ∨ (s.slot n).state = .stale
    (∀ n before after, (s.ring i).slots = before ++ n :: after → candidate n → unused n →
      (∀ m ∈ before, candidate m → ¬unused m) → s.writeSlot i = some n) ∧
    (∀ n newer older, (s.ring i).age = newer ++ n :: older → candidate n → (∀ m, candidate m → ¬unused m) →
      (∀ m ∈ older, ¬candidate m) → s.writeSlot i = some n) ∧
    ((∀ m, candidate m → ¬unused m) → (∀ m ∈ (s.ring i).age, ¬candidate m) → s.writeSlot i = none) ∧
    (∀ n, s.writeSlot i = some n → candidate n ∧
      ((unused n ∧ ∃ before after, (s.ring i).slots = before ++ n :: after ∧ ∀ m ∈ before, candidate m → ¬unused m)
        ∨ ((∀ m, candidate m → ¬unused m)
          ∧ ∃ newer older, (s.ring i).age = newer ++ n :: older ∧ ∀ m ∈ older, ¬candidate m)))

/-- For an input that is LOCKED or SUSPECT the reader takes the slot at the rank that the delay, the unpinned slots and
the length of the age list give; within a frame the fresh entries are left out. For any other input, and where no
entry is left, it takes the substitute (R46, R47, R49). A still gives its entry's slot, or black, whatever the delay;
FILL and PATTERN give themselves (R48, R52). -/
def Obligations.ReaderRanksByDelay : Prop :=
  ∀ (i delay : Nat) (withinFrame : Bool) (s : State),
    let age := if withinFrame then (s.ring i).age.drop (s.ring i).fresh else (s.ring i).age
    let able := (s.input i).state = .locked ∨ (s.input i).state = .suspect
    (able → ∀ newer n older, age = newer ++ n :: older →
      newer.length = min (min delay (s.unpinned i - 3)) (age.length - 1) →
      chooseInput i delay withinFrame s = .slot n) ∧
    (¬able ∨ age = [] →
      ((s.input i).substKind = .black → chooseInput i delay withinFrame s = .black) ∧
      ((s.input i).substKind = .fill → chooseInput i delay withinFrame s = .colour (s.input i).substColour) ∧
      ((s.input i).substKind = .pattern → chooseInput i delay withinFrame s = .pattern) ∧
      ((s.input i).substKind = .still → ∀ n, s.still (s.input i).substStill = some n →
        chooseInput i delay withinFrame s = .slot n) ∧
      ((s.input i).substKind = .still → s.still (s.input i).substStill = none →
        chooseInput i delay withinFrame s = .black)) ∧
    chooseShown (.input i) delay withinFrame s = chooseInput i delay withinFrame s ∧
    (∀ e n, s.still e = some n → chooseShown (.still e) delay withinFrame s = .slot n) ∧
    (∀ e, s.still e = none → chooseShown (.still e) delay withinFrame s = .black) ∧
    chooseShown .fill delay withinFrame s = .fill ∧ chooseShown .pattern delay withinFrame s = .pattern

/-! ### Composition arithmetic -/

/-- Sampling never leaves the effective crop, and the crop never leaves the source (R119, R121). The weights of a MIX
rise to the whole: none exceeds 256, step N has exactly 256, and at 256 and at 0 a blend gives one side exactly (R103,
R125, R126). -/
def Obligations.SamplesAndWeightsStayInBounds : Prop :=
  (∀ (c : Crop) (w h step k : Nat), 1 ≤ w → 1 ≤ h → (∀ r, c = .rect r → 1 ≤ r.w ∧ 1 ≤ r.h) →
    let e := effectiveCrop c w h
    1 ≤ e.w ∧ e.x + e.w ≤ w ∧ 1 ≤ e.h ∧ e.y + e.h ≤ h ∧
    (let (a, b, f) := tapsOf e.x e.w step k
     e.x ≤ a ∧ a ≤ b ∧ b < e.x + e.w ∧ f < 16) ∧
    (let (a, b, g) := tapsOf e.y e.h step k
     e.y ≤ a ∧ a ≤ b ∧ b < e.y + e.h ∧ g < 16)) ∧
  ∀ k n a b : Nat, 2 ≤ n → 1 ≤ k → k ≤ n →
    mixWeight k n ≤ 256 ∧ mixWeight n n = 256 ∧ (k < n → mixWeight k n ≤ mixWeight (k + 1) n) ∧
    blend 256 a b = a ∧ blend 0 a b = b

/-- With every colour that the part holds in its range, and the scene tables sound, every component of every scene's
raster lies within 0–1023 (R122, R125, R126). -/
def Obligations.ScenePixelsStayInRange : Prop :=
  ∀ s : State, SceneTablesSound s → ColoursInRange s → ∀ k x y, (scenePixel s k x y).inRange = true

/-- The components a port sends: 0–1023 at depth 10 and 0–255 at depth 8; on a LEGAL port 64–940 and 64–960, and
16–235 and 16–240 at depth 8; black stays black (R127, R128). -/
def Obligations.PortComponentsWithinLimits : Prop :=
  ∀ (p : Port) (c : Colour), c.inRange = true →
    (p.depth10 = true → (convert p c).inRange = true ∧ convert p ⟨64, 512, 512⟩ = ⟨64, 512, 512⟩) ∧
    (p.depth10 = false → (convert p c).y ≤ 255 ∧ (convert p c).cb ≤ 255 ∧ (convert p c).cr ≤ 255
      ∧ convert p ⟨64, 512, 512⟩ = ⟨16, 128, 128⟩) ∧
    (p.depth10 = true → p.full = true → convert p c = c) ∧
    (p.depth10 = true → p.full = false → 64 ≤ (convert p c).y ∧ (convert p c).y ≤ 940 ∧ 64 ≤ (convert p c).cb
      ∧ (convert p c).cb ≤ 960 ∧ 64 ≤ (convert p c).cr ∧ (convert p c).cr ≤ 960) ∧
    (p.depth10 = false → p.full = false → 16 ≤ (convert p c).y ∧ (convert p c).y ≤ 235 ∧ 16 ≤ (convert p c).cb
      ∧ (convert p c).cb ≤ 240 ∧ 16 ≤ (convert p c).cr ∧ (convert p c).cr ≤ 240)

/-! ### The event unit -/

/-- A raise of a disabled kind changes nothing. A raise of an enabled kind without an entry creates one after every
entry of its own or a more urgent level and before every other; with an entry it merges into it in its place (R159). -/
def Obligations.RaiseCreatesOrMerges : Prop :=
  ∀ (e : Event) (s : State), PendingSetOrdered s →
    (s.events.enabled e.code = false → raise e s = s) ∧
    (s.events.enabled e.code = true → (∀ x ∈ s.events.entries, x.event.sameEntry e = false) →
      ∃ before after, s.events.entries = before ++ after
        ∧ (∀ x ∈ before, x.event.level ≤ e.level) ∧ (∀ x ∈ after, e.level < x.event.level)
        ∧ raise e s = { s with events := { s.events with entries := before ++ ⟨e, 1, false⟩ :: after } }) ∧
    (s.events.enabled e.code = true → ∀ before x after, s.events.entries = before ++ x :: after →
      x.event.sameEntry e = true →
      raise e s = { s with events := { s.events with
        entries := before ++ { x with event := e, count := min (x.count + 1) 65535 } :: after } })

/-- ALERT is asserted exactly while the pending set holds an entry of level 0, a RESTART or a PORT PROTECT, and level 0
is not masked. The assertion of the RESET line empties the set and deasserts it, and no command but the deassertion
of the line changes either while the line is asserted (R163). -/
def Obligations.AlertFollowsLevelZero : Prop :=
  (∀ s : State, s.alert = true ↔
    (∃ x ∈ s.events.entries, (∃ c, x.event = .restart c) ∨ ∃ p a b h, x.event = .portProtect p a b h)
      ∧ s.events.masks[0] = false) ∧
  (∀ s : State, s.resetLine = false →
    ∃ t, exec .resetLineAssert s = .next t ∧ t.resetLine = true ∧ t.events.entries = [] ∧ t.alert = false) ∧
  ∀ (c : Instr) (s : State), s.resetLine = true → (∀ t, c ≠ .resetLineDeassert t) →
    ∃ t, exec c s = .next t ∧ t.events = s.events ∧ t.alert = s.alert

/-! ### Refusals and waiting frames -/

/-- A request with a field outside its range is answered RANGE and changes nothing else: the first check of each
request, with the ranges of Input Setup and Port Setup (R18, R20, R21, R33, R38, R40, R89, R90, R97, R106, R131,
R139). -/
def Obligations.FieldsOutOfRangeAnswerRange : Prop :=
  (∀ p : InputSetupFields, inputSetupOk p = true ↔
    p.input ≤ 15 ∧ p.enable ≤ 1 ∧ 3 ≤ p.ring ∧ p.ring ≤ 8 ∧ 2 ≤ p.k ∧ p.k ≤ 15 ∧ 1 ≤ p.l ∧ p.l ≤ 15 ∧ p.subst ≤ 3
      ∧ p.still ≤ 15 ∧ p.colour.y ≤ 1023 ∧ p.colour.cb ≤ 1023 ∧ p.colour.cr ≤ 1023) ∧
  (∀ p : PortSetupFields, portSetupOk p = true ↔
    p.port ≤ 11 ∧ p.enable ≤ 1 ∧ p.depth ≤ 1 ∧ p.range ≤ 1 ∧ p.protectA ≤ 1 ∧ p.protectB ≤ 1 ∧ p.action ≤ 2
      ∧ p.index ≤ 15 ∧ p.restart ≤ 1) ∧
  ∀ (tag : Byte) (s : State), s.Ready →
    (∀ p, inputSetupOk p = false → exec (.inputSetup tag p) s = .next (s.replied tag 0x10 .range [])) ∧
    (∀ i, 15 < i → exec (.inputReset tag i) s = .next (s.replied tag 0x11 .range [])) ∧
    (∀ i c, 15 < i ∨ 1 < c → exec (.inputQuery tag i c) s = .next (s.replied tag 0x12 .range [])) ∧
    (∀ i e, 15 < i ∨ 15 < e → exec (.stillGrab tag i e) s = .next (s.replied tag 0x18 .range [])) ∧
    (∀ e, 15 < e → exec (.stillDrop tag e) s = .next (s.replied tag 0x19 .range [])) ∧
    (∀ v i, 1 < v ∨ 15 < i → exec (.storeQuery tag v i) s = .next (s.replied tag 0x1A .range [])) ∧
    (∀ w f, 63 < w ∨ 1 < f → exec (.windowFreeze tag w f) s = .next (s.replied tag 0x23 .range [])) ∧
    (∀ w, 63 < w → exec (.windowQuery tag w) s = .next (s.replied tag 0x24 .range [])) ∧
    (∀ k, 15 < k → exec (.sceneTakeFrame tag k) s = .next (s.replied tag 0x29 .range [])) ∧
    (∀ k, 15 < k → exec (.sceneTakeNow tag k) s = .next (s.replied tag 0x29 .range [])) ∧
    (∀ k, 15 < k → exec (.sceneQuery tag k) s = .next (s.replied tag 0x2A .range [])) ∧
    (∀ p, portSetupOk p = false → exec (.portSetup tag p) s = .next (s.replied tag 0x30 .range [])) ∧
    (∀ n k, 11 < n ∨ (15 < k ∧ k ≠ 255) → exec (.portAssignFrame tag n k) s = .next (s.replied tag 0x31 .range [])) ∧
    (∀ n k, 11 < n ∨ (15 < k ∧ k ≠ 255) → exec (.portAssignNow tag n k) s = .next (s.replied tag 0x31 .range [])) ∧
    (∀ n, 11 < n → exec (.portQuery tag n) s = .next (s.replied tag 0x34 .range [])) ∧
    (∀ es ms, (∃ x ∈ es ++ ms, 1 < x) → exec (.eventEnable tag es ms) s = .next (s.replied tag 0x3A .range [])) ∧
    (∀ c, 1 < c → exec (.deviceQuery tag c) s = .next (s.replied tag 0x3E .range []))

/-- The checks of a request after its ranges, in their order: the first that fails gives the reply, and the request
changes nothing else (R18, R20, R33, R38, R97, R106, R139). -/
def Obligations.FailedChecksChangeNothing : Prop :=
  ∀ (tag : Byte) (s : State), s.Ready →
    (∀ p, inputSetupOk p = true →
      (s.hasPending (·.isResetOf p.input) = true → exec (.inputSetup tag p) s = .next (s.replied tag 0x10 .busy [])) ∧
      (s.hasPending (·.isResetOf p.input) = false → (s.input p.input).state ≠ .off → p.enable = 1 →
        p.ring ≠ (s.ring p.input).slots.length → exec (.inputSetup tag p) s = .next (s.replied tag 0x10 .state [])) ∧
      (s.hasPending (·.isResetOf p.input) = false → (s.input p.input).state = .off → p.enable = 1 →
        s.freeSlots.length < p.ring → exec (.inputSetup tag p) s = .next (s.replied tag 0x10 .noSlots []))) ∧
    (∀ i, i ≤ 15 →
      ((s.input i).state = .off → exec (.inputReset tag i) s = .next (s.replied tag 0x11 .state [])) ∧
      ((s.input i).state ≠ .off → s.hasPending (·.isResetOf i) = true ∨ 16 ≤ s.link.table.length →
        exec (.inputReset tag i) s = .next (s.replied tag 0x11 .busy []))) ∧
    (∀ i e, i ≤ 15 → e ≤ 15 →
      ((s.input i).state ≠ .locked → exec (.stillGrab tag i e) s = .next (s.replied tag 0x18 .state [])) ∧
      ((s.input i).state = .locked →
        s.hasPending (·.isGrabOf i) = true ∨ s.hasPending (·.isGrabInto e) = true ∨ 16 ≤ s.link.table.length →
        exec (.stillGrab tag i e) s = .next (s.replied tag 0x18 .busy [])) ∧
      ((s.input i).state = .locked → s.hasPending (·.isGrabOf i) = false → s.hasPending (·.isGrabInto e) = false →
        s.link.table.length < 16 → s.freeSlots = [] →
        exec (.stillGrab tag i e) s = .next (s.replied tag 0x18 .noSlots []))) ∧
    (∀ e, e ≤ 15 → s.hasPending (·.isGrabInto e) = true →
      exec (.stillDrop tag e) s = .next (s.replied tag 0x19 .busy [])) ∧
    (∀ w f, w ≤ 63 → f ≤ 1 →
      ((∀ j, (s.window w).binding = some j → w ∉ (s.scene j).liveList) →
        exec (.windowFreeze tag w f) s = .next (s.replied tag 0x23 .state [])) ∧
      (∀ j i, (s.window w).binding = some j → w ∈ (s.scene j).liveList → f = 1 → (s.window w).frozen = false →
        (s.window w).target = .input i → (s.input i).state ≠ .off → s.unpinned i < 4 →
        exec (.windowFreeze tag w f) s = .next (s.replied tag 0x23 .noSlots []))) ∧
    (∀ k, k ≤ 15 → (s.scene k).takePending = true →
      exec (.sceneTakeFrame tag k) s = .next (s.replied tag 0x29 .busy []) ∧
      exec (.sceneTakeNow tag k) s = .next (s.replied tag 0x29 .busy [])) ∧
    (∀ k, k ≤ 15 → 16 ≤ s.link.table.length →
      exec (.sceneTakeFrame tag k) s = .next (s.replied tag 0x29 .busy [])) ∧
    (∀ n k, n ≤ 11 → k ≤ 15 ∨ k = 255 → s.hasPending (·.isAssignOf n) = true →
      exec (.portAssignFrame tag n k) s = .next (s.replied tag 0x31 .busy []) ∧
      exec (.portAssignNow tag n k) s = .next (s.replied tag 0x31 .busy [])) ∧
    (∀ n k, n ≤ 11 → k ≤ 15 ∨ k = 255 → 16 ≤ s.link.table.length →
      exec (.portAssignFrame tag n k) s = .next (s.replied tag 0x31 .busy []))

/-- While no reply place is free a request's frame waits in the receive queue, behind those before it; where four wait
already it is an overrun, counted and raised as LINK ERROR; during a Device Reset it is discarded (R149, R150, R156). A
frame of a kind that Table 9.5 does not list is answered UNKNOWN KIND, and one of a listed kind with another length BAD
LENGTH, before any field is examined (R151). A Scene Take or Port Assign frame with TIMING above 1 is answered RANGE
(R97 (1), R139 (1); no row carries such a frame, so it stands as the row of a frame of any kind, log entry 27). -/
def Obligations.FramesWaitOverrunOrAreRefused : Prop :=
  (∀ (i : Instr) (f : Frame) (s : State), requestFrame i = some f → s.resetLine = false →
    (s.link.resetting = false → 24 ≤ s.link.reserved + s.link.replies.length →
      (s.link.queue.length < 4 →
        exec i s = .next { s with link := { s.link with queue := s.link.queue ++ [f] } }) ∧
      (s.link.queue.length = 4 →
        exec i s = .next { s with
          link := { s.link with errors := min (s.link.errors + 1) 65535 }
          events := s.events.raised .linkError })) ∧
    (s.link.resetting = true → s.link.queue = [] → exec i s = .next s)) ∧
  ∀ (tag kind : Byte) (payload : List Byte) (s : State), s.Ready →
    (kind.toNat ∉ listedKinds → exec (.unknownKind tag kind payload) s = .next (s.replied tag kind .unknownKind [])) ∧
    (∀ n, requestLength kind.toNat = some n → payload.length ≠ n →
      exec (.unknownKind tag kind payload) s = .next (s.replied tag kind .badLength [])) ∧
    (∀ scene port timing : Byte, 1 < timing.toNat →
      exec (.unknownKind tag 0x29 [scene, timing]) s = .next (s.replied tag 0x29 .range []) ∧
      exec (.unknownKind tag 0x31 [port, scene, timing]) s = .next (s.replied tag 0x31 .range []))

/-! ### Requests of Sections 1 and 2 -/

/-- An accepted Input Setup that leaves the input OFF, or leaves it enabled, stores its settings and nothing more. One
that enables an input gives it the lowest FREE slots as its ring, sequence 0 and no last start, and moves it to
SEARCHING with INPUT STATE raised (R19 (1) to (3), R27). -/
def Obligations.InputSetupStoresAndEnables : Prop :=
  (∀ (tag : Byte) (p : InputSetupFields) (s : State), s.Ready → inputSetupOk p = true →
    s.hasPending (·.isResetOf p.input) = false →
    ((s.input p.input).state = .off → p.enable = 0 →
      exec (.inputSetup tag p) s = .next (({ s with
        inputs := put s.inputs p.input { s.input p.input with
          k := p.k, l := p.l, substKind := substOf p.subst, substStill := p.still, substColour := p.colour,
          ringLength := p.ring } } : State).replied tag 0x10 .done [])) ∧
    ((s.input p.input).state ≠ .off → p.enable = 1 → p.ring = (s.ring p.input).slots.length →
      exec (.inputSetup tag p) s = .next (({ s with
        inputs := put s.inputs p.input { s.input p.input with
          k := p.k, l := p.l, substKind := substOf p.subst, substStill := p.still, substColour := p.colour } }
        : State).replied tag 0x10 .done []))) ∧
  ∀ (tag : Byte) (p : InputSetupFields) (s : State), s.Ready → inputSetupOk p = true →
    s.hasPending (·.isResetOf p.input) = false → (s.input p.input).state = .off → InputSound (s.input p.input) →
    p.enable = 1 → p.ring ≤ s.freeSlots.length →
    exec (.inputSetup tag p) s = .next (({ s with
      inputs := put s.inputs p.input { s.input p.input with
        k := p.k, l := p.l, substKind := substOf p.subst, substStill := p.still, substColour := p.colour,
        ringLength := p.ring, sequence := 0, lastStart := none, state := .searching }
      slots := alter s.slots (s.freeSlots.take p.ring) fun x =>
        { x with state := .empty, owner := .input p.input, sequence := 0, format := none }
      rings := put s.rings p.input ⟨s.freeSlots.take p.ring, [], 0⟩
      events := s.events.raised (.inputState p.input .searching none) } : State).replied tag 0x10 .done [])

/-- An Input Setup that disables an input: the unit enters OFF and keeps its counters, its ring is released, held slots
to the retiring set and the others to the pool, its windows are unfrozen, a pending grab is answered ABORTED, and
INPUT STATE is raised (R7, R19 (4), R31, R36). Where the input was the lock source and present, the time base loses it
(R64, R66 (3)). That the grab's reply is queued before the setup's own is the model's choice (log entry 30), as is the
order of two events raised together (log entry 15). -/
def Obligations.InputSetupDisables : Prop :=
  ∀ (tag : Byte) (p : InputSetupFields) (s : State), s.Ready → inputSetupOk p = true →
    s.hasPending (·.isResetOf p.input) = false → (s.input p.input).state ≠ .off → p.enable = 0 →
    ∃ t, exec (.inputSetup tag p) s = .next t ∧
      t = { s with
        inputs := put s.inputs p.input { s.input p.input with
          k := p.k, l := p.l, substKind := substOf p.subst, substStill := p.still, substColour := p.colour,
          ringLength := p.ring, state := .off, counted := none, count := 0, timer := none, lastStart := none,
          frame := none, midway := none }
        rings := put s.rings p.input ⟨[], [], 0⟩
        slots := t.slots, windows := t.windows, pins := t.pins, time := t.time
        reservations :=
          if s.hasPending (·.isGrabOf p.input) = true then put s.reservations p.input none else s.reservations
        link := { s.link with
          table := s.link.table.filter fun e => !e.target.isGrabOf p.input
          replies := s.link.replies
            ++ (s.link.table.filter fun e => e.target.isGrabOf p.input).map
                (fun e => ⟨e.tag, e.target.kind, .aborted, []⟩)
            ++ [⟨tag, 0x10, .done, []⟩]
          reserved := s.link.reserved - (s.link.table.filter fun e => e.target.isGrabOf p.input).length }
        events := t.events } ∧
      (∀ n, (t.slot n).picture = (s.slot n).picture) ∧
      (∀ n, n < 96 → (s.hasPending (·.isGrabOf p.input) = true → s.reservation p.input ≠ some n) →
        (n ∈ (s.ring p.input).slots →
          (t.slot n).owner = .none ∧ (t.slot n).claims = (s.slot n).claims ∧
          (((s.slot n).claims ≠ 0 ∨ (s.slot n).pinned.isSome = true) →
            (t.slot n).state = .retiring ∧ (t.slot n).pinned = none ∧
            ((s.slot n).state ≠ .filling →
              t.slot n = { s.slot n with state := .retiring, owner := .none, pinned := none })) ∧
          ((s.slot n).claims = 0 → (s.slot n).pinned = none →
            t.slot n = { s.slot n with state := .free, owner := .none, sequence := 0, format := none })) ∧
        (n ∉ (s.ring p.input).slots → t.slot n = s.slot n)) ∧
      (∀ w, w < 64 →
        ((s.window w).frozen = true → (s.window w).shown = .input p.input →
          t.window w = { s.window w with frozen := false } ∧ t.pin w = none) ∧
        ((s.window w).frozen = false ∨ (s.window w).shown ≠ .input p.input →
          t.window w = s.window w ∧ t.pin w = s.pin w)) ∧
      (∀ n, s.hasPending (·.isGrabOf p.input) = true → s.reservation p.input = some n → n < 96 →
        (t.slot n).state = .free ∧ (t.slot n).owner = .none ∧ (t.slot n).sequence = 0 ∧ (t.slot n).format = none) ∧
      TimeFollows s.lockPresent s.time (s.events.raised (.inputState p.input .off none)) t

/-- An accepted Input Reset: the unit enters SEARCHING with its counters and sequence at 0, keeping its settings and
last start; its ring keeps its slots, COMPLETE ones STALE, a FILLING one EMPTY and the others as they were; windows
frozen on it are unfrozen, and each of their pins leaves one claim on its slot (R53); a pending grab ends with ABORTED
and its reservation is FREE (R36); a time base that followed it loses it (R64, R66 (3)); and the request waits for the
boundary (R20, R54, R55). -/
def Obligations.InputResetActsAtOnce : Prop :=
  ∀ (tag : Byte) (i : Nat) (s : State), s.Ready → i ≤ 15 → (s.input i).state ≠ .off →
    s.hasPending (·.isResetOf i) = false → s.link.table.length < 16 →
    let given := fun (n : Nat) => s.hasPending (·.isGrabOf i) = true → s.reservation i ≠ some n
    let released := fun (w : Nat) => (s.window w).frozen = true ∧ (s.window w).shown = .input i
    ∃ t, exec (.inputReset tag i) s = .next t ∧
      t = { s with
        inputs := put s.inputs i { s.input i with
          state := .searching, counted := none, count := 0, timer := none, frame := none, midway := none,
          framesStored := 0, framesBad := 0, lockLosses := 0, sequence := 0 }
        rings := put s.rings i { s.ring i with age := [], fresh := 0 }
        slots := t.slots, windows := t.windows, pins := t.pins, time := t.time
        reservations := if s.hasPending (·.isGrabOf i) = true then put s.reservations i none else s.reservations
        link := { s.link with
          table := (s.link.table.filter fun e => !e.target.isGrabOf i) ++ [⟨tag, .reset i⟩]
          replies := s.link.replies
            ++ (s.link.table.filter fun e => e.target.isGrabOf i).map (fun e => ⟨e.tag, e.target.kind, .aborted, []⟩)
          reserved := s.link.reserved + 1 - (s.link.table.filter fun e => e.target.isGrabOf i).length }
        events := t.events } ∧
      (∀ n, (t.slot n).picture = (s.slot n).picture ∧
        (n ∉ (s.ring i).slots → given n → (∀ w, released w → s.pin w ≠ some n) → t.slot n = s.slot n)) ∧
      (∀ n, n < 96 → n ∈ (s.ring i).slots → given n → (∀ w, released w → s.pin w ≠ some n) → MarkedStale s t i n) ∧
      (∀ n, n < 96 → given n → (∃ w, released w ∧ s.pin w = some n) →
        (t.slot n).claims = claimsAfter (s.slot n).claims (((List.range 64).filter fun w =>
          (s.window w).frozen && (s.window w).shown == .input i && s.pin w == some n).length) ∧
        ((s.slot n).state ≠ .filling → (t.slot n).owner = (s.slot n).owner
          ∧ (t.slot n).sequence = (s.slot n).sequence ∧ (t.slot n).format = (s.slot n).format) ∧
        ((∀ v, s.pin v = some n → released v) → (t.slot n).state = .stale ∧ (t.slot n).pinned = none) ∧
        (∀ v, s.pin v = some n → ¬released v → (∀ u, u < v → s.pin u = some n → released u) →
          (t.slot n).pinned = some v)) ∧
      (∀ n, s.hasPending (·.isGrabOf i) = true → s.reservation i = some n → n < 96 →
        (t.slot n).state = .free ∧ (t.slot n).owner = .none ∧ (t.slot n).sequence = 0 ∧ (t.slot n).format = none) ∧
      (∀ w, w < 64 →
        ((s.window w).frozen = true → (s.window w).shown = .input i →
          t.window w = { s.window w with frozen := false } ∧ t.pin w = none) ∧
        ((s.window w).frozen = false ∨ (s.window w).shown ≠ .input i →
          t.window w = s.window w ∧ t.pin w = s.pin w)) ∧
      TimeFollows s.lockPresent s.time
        (if (s.input i).state = .searching then s.events else s.events.raised (.inputState i .searching none)) t

/-- The queries are answered DONE with their data, taken before any clear; Input Query and Device Query with CLEAR 1
then zero their counters, and nothing else changes. The data of every query reply has the length and the fields that its
table gives, whatever the part holds (R21, R40, R89, R90, R143, R155; Tables 1.5, 2.6 to 2.8, 5.5, 5.6, 8.4, 9.7). The
index reported before any Port Setup, and the showing of a STILL whose entry is empty, are the model's choices (log
entries 34 and 31). -/
def Obligations.QueriesAnswerDone : Prop :=
  (∀ (tag : Byte) (s : State), s.Ready →
    (∀ i, i ≤ 15 →
      exec (.inputQuery tag i 0) s = .next (s.replied tag 0x12 .done (inputQueryData i s)) ∧
      exec (.inputQuery tag i 1) s = .next (({ s with inputs := put s.inputs i { s.input i with
          framesStored := 0, framesBad := 0, lockLosses := 0 } } : State).replied tag 0x12 .done
            (inputQueryData i s))) ∧
    (∀ i, i ≤ 15 →
      exec (.storeQuery tag 0 i) s = .next (s.replied tag 0x1A .done (storeSummary s)) ∧
      exec (.storeQuery tag 1 i) s = .next (s.replied tag 0x1A .done (storeDetail i s))) ∧
    (∀ w, w ≤ 63 → exec (.windowQuery tag w) s = .next (s.replied tag 0x24 .done (windowQueryData w s))) ∧
    (∀ k, k ≤ 15 → exec (.sceneQuery tag k) s = .next (s.replied tag 0x2A .done (sceneQueryData k s))) ∧
    (∀ n, n ≤ 11 → exec (.portQuery tag n) s = .next (s.replied tag 0x34 .done (portQueryData n s))) ∧
    exec (.deviceQuery tag 0) s = .next (s.replied tag 0x3E .done (deviceQueryData s)) ∧
    exec (.deviceQuery tag 1) s = .next (({ s with link := { s.link with errors := 0 } } : State).replied tag 0x3E .done
      (deviceQueryData s))) ∧
  ∀ (s : State) (i w k n : Nat),
    InputReported s i (inputQueryData i s) ∧ StoreReported s (storeSummary s) ∧ RingReported s i (storeDetail i s) ∧
    WindowReported s w (windowQueryData w s) ∧ SceneReported s k (sceneQueryData k s) ∧
    PortReported s n (portQueryData n s) ∧ DeviceReported s (deviceQueryData s)

/-- An accepted Still Grab reserves the lowest FREE slot and enters the table with a timeout count of 120 (R34). Still
Drop empties the entry; a slot it held joins the retiring set, keeping its claims, sequence and format (R30, R38). -/
def Obligations.GrabsReserveAndDropsRetire : Prop :=
  (∀ (tag : Byte) (i e n : Nat) (rest : List Nat) (s : State), s.Ready → i ≤ 15 → e ≤ 15 →
    (s.input i).state = .locked → s.hasPending (·.isGrabOf i) = false → s.hasPending (·.isGrabInto e) = false →
    s.link.table.length < 16 → s.freeSlots = n :: rest →
    exec (.stillGrab tag i e) s = .next (({ s with
      slots := put s.slots n { s.slot n with state := .empty, owner := .grab i, sequence := 0, format := none }
      reservations := put s.reservations i (some n) } : State).entered tag (.grab i e 120))) ∧
  ∀ (tag : Byte) (e : Nat) (s : State), s.Ready → e ≤ 15 → s.hasPending (·.isGrabInto e) = false →
    (∀ n, s.still e = some n →
      exec (.stillDrop tag e) s = .next (({ s with
        slots := put s.slots n { s.slot n with state := .retiring, owner := .none, pinned := none }
        stills := put s.stills e none } : State).replied tag 0x19 .done [])) ∧
    (s.still e = none → exec (.stillDrop tag e) s = .next (s.replied tag 0x19 .done []))

/-! ### Requests of Sections 5 and 6 -/

/-- Window Bind and Window Unbind with their checks in order: RANGE, then OWNER or STATE, each changing nothing; an
accepted bind changes the binding alone, and an accepted unbind leaves the window in its default record. An unbound
window holds that record (R82, R83). -/
def Obligations.BindingFollowsItsRules : Prop :=
  ∀ (tag : Byte) (w k : Nat) (s : State), s.Ready →
    (63 < w ∨ 15 < k → exec (.windowBind tag w k) s = .next (s.replied tag 0x20 .range [])) ∧
    (w ≤ 63 → k ≤ 15 →
      (∀ j, (s.window w).binding = some j → j ≠ k →
        exec (.windowBind tag w k) s = .next (s.replied tag 0x20 .owner [])) ∧
      ((s.window w).binding = none → SceneTablesSound s → s.window w = Window.reset) ∧
      ((s.window w).binding = none →
        exec (.windowBind tag w k) s = .next (({ s with
          windows := put s.windows w { s.window w with binding := some k } } : State).replied tag 0x20 .done [])) ∧
      ((s.window w).binding = some k →
        exec (.windowBind tag w k) s = .next (s.replied tag 0x20 .done []))) ∧
    (63 < w → exec (.windowUnbind tag w) s = .next (s.replied tag 0x21 .range [])) ∧
    (w ≤ 63 →
      (∀ j, (s.window w).binding = some j → w ∈ (s.scene j).stagedList ∨ w ∈ (s.scene j).liveList →
        exec (.windowUnbind tag w) s = .next (s.replied tag 0x21 .state [])) ∧
      ((∀ j, (s.window w).binding = some j → w ∉ (s.scene j).stagedList ∧ w ∉ (s.scene j).liveList) →
        exec (.windowUnbind tag w) s = .next (({ s with
          windows := put s.windows w Window.reset } : State).replied tag 0x21 .done [])))

/-- Window Stage and Scene Stage with their checks in order, RANGE by their tables and OWNER, each changing nothing; an
accepted one replaces the whole staged copy of the window, or the staged background and list of the scene, and nothing
else (R84, R85, R87, R88, Tables 5.3 and 5.4). -/
def Obligations.StagingFollowsItsRules : Prop :=
  (∀ p : WindowStageFields, windowStageOk p = true ↔
    p.window ≤ 63 ∧ p.source ≤ 4 ∧ p.index ≤ 15 ∧ p.tourCount ≤ 8 ∧ (p.source = 4 → 1 ≤ p.tourCount)
      ∧ (∀ e ∈ p.entries.take p.tourCount, e.1 ≤ 1 ∧ e.2 ≤ 15) ∧ 1 ≤ p.dwell ∧ p.dwell ≤ 600 ∧ p.cropMode ≤ 1
      ∧ (p.cropMode = 1 → p.crop.x ≤ 1919 ∧ p.crop.y ≤ 1079 ∧ 16 ≤ p.crop.w ∧ p.crop.w ≤ 1920 ∧ 16 ≤ p.crop.h
        ∧ p.crop.h ≤ 1080)
      ∧ p.dest.x ≤ 1919 ∧ p.dest.y ≤ 1079 ∧ 16 ≤ p.dest.w ∧ p.dest.w ≤ 1920 ∧ 16 ≤ p.dest.h ∧ p.dest.h ≤ 1080
      ∧ p.border ≤ 15 ∧ p.borderColour.y ≤ 1023 ∧ p.borderColour.cb ≤ 1023 ∧ p.borderColour.cr ≤ 1023
      ∧ p.fillColour.y ≤ 1023 ∧ p.fillColour.cb ≤ 1023 ∧ p.fillColour.cr ≤ 1023 ∧ p.transition ≤ 2
      ∧ (p.transition = 1 → 1 ≤ p.count ∧ p.count ≤ 63) ∧ (p.transition = 2 → 2 ≤ p.count ∧ p.count ≤ 255)
      ∧ p.delay ≤ 6) ∧
  (∀ p : SceneStageFields, sceneStageOk p = true ↔
    p.scene ≤ 15 ∧ p.background.y ≤ 1023 ∧ p.background.cb ≤ 1023 ∧ p.background.cr ≤ 1023 ∧ p.count ≤ 8
      ∧ (∀ w ∈ p.windows.take p.count, w ≤ 63) ∧ (p.windows.take p.count).Nodup) ∧
  ∀ (tag : Byte) (s : State), s.Ready →
    (∀ p : WindowStageFields,
      (windowStageOk p = false → exec (.windowStage tag p) s = .next (s.replied tag 0x22 .range [])) ∧
      (windowStageOk p = true → (s.window p.window).binding = none →
        exec (.windowStage tag p) s = .next (s.replied tag 0x22 .owner [])) ∧
      (∀ k, windowStageOk p = true → (s.window p.window).binding = some k →
        exec (.windowStage tag p) s = .next (({ s with
          windows := put s.windows p.window { s.window p.window with
            staged :=
              { source :=
                  if p.source = 0 then .plain (.input p.index) else if p.source = 1 then .plain (.still p.index)
                  else if p.source = 2 then .plain .fill else if p.source = 3 then .plain .pattern else .tour
                tourList := (p.entries.take p.tourCount).map fun e => if e.1 = 0 then .input e.2 else .still e.2
                dwell := p.dwell
                crop := if p.cropMode = 1 then .rect p.crop else .whole
                dest := p.dest
                opacity := if p.opacity ≤ 256 then p.opacity else 256
                border := p.border
                borderColour := p.borderColour
                fillColour := p.fillColour
                transition :=
                  if p.transition = 0 then .cut else if p.transition = 1 then .fill p.count else .mix p.count
                delay := p.delay } } } : State).replied tag 0x22 .done []))) ∧
    (∀ p : SceneStageFields,
      (sceneStageOk p = false → exec (.sceneStage tag p) s = .next (s.replied tag 0x28 .range [])) ∧
      (sceneStageOk p = true → (∃ w ∈ p.windows.take p.count, (s.window w).binding ≠ some p.scene) →
        exec (.sceneStage tag p) s = .next (s.replied tag 0x28 .owner [])) ∧
      (sceneStageOk p = true → (∀ w ∈ p.windows.take p.count, (s.window w).binding = some p.scene) →
        exec (.sceneStage tag p) s = .next (({ s with
          scenes := put s.scenes p.scene { s.scene p.scene with
            stagedBackground := p.background, stagedList := p.windows.take p.count } } : State).replied
              tag 0x28 .done [])))

/-- An accepted FRAME take or FRAME assign enters the table and keeps its reply place reserved; the take sets the take
pending flag and records the F in force. An accepted Window Freeze sets the window's freeze order, replacing any order
held. Nothing else changes yet (R97, R106, R139). -/
def Obligations.RequestsForTheBoundaryWait : Prop :=
  (∀ (tag : Byte) (s : State), s.Ready → s.link.table.length < 16 →
    (∀ k, k ≤ 15 → (s.scene k).takePending = false →
      exec (.sceneTakeFrame tag k) s = .next (({ s with
        scenes := put s.scenes k { s.scene k with takePending := true } } : State).entered tag (.take k s.factor))) ∧
    (∀ n k, n ≤ 11 → k ≤ 15 → s.hasPending (·.isAssignOf n) = false →
      exec (.portAssignFrame tag n k) s = .next (s.entered tag (.assign n (some k)))) ∧
    (∀ n, n ≤ 11 → s.hasPending (·.isAssignOf n) = false →
      exec (.portAssignFrame tag n 255) s = .next (s.entered tag (.assign n none)))) ∧
  ∀ (tag : Byte) (w k : Nat) (s : State), s.Ready → w ≤ 63 → (s.window w).binding = some k →
    w ∈ (s.scene k).liveList →
    exec (.windowFreeze tag w 0) s = .next (({ s with
      windows := put s.windows w { s.window w with freezeOrder := .off } } : State).replied tag 0x23 .done []) ∧
    ((s.window w).frozen = true ∨
      (∀ i, (s.window w).target = .input i → (s.input i).state = .off ∨ 4 ≤ s.unpinned i) →
      exec (.windowFreeze tag w 1) s = .next (({ s with
        windows := put s.windows w { s.window w with freezeOrder := .on } } : State).replied tag 0x23 .done []))

/-- An accepted NOW take is applied at dispatch with the F in force and answered DONE. Where the scene is being
composed, every source that it brings in, and every source of it not chosen for yet, is chosen for as within a frame and
recorded; what the record holds for any other source is kept (R49, R50, R116; log entry 16 for what is brought in). Each
choice of a slot adds one claim, and so does each pin released (R26, R53); no other claim changes (R97, R98, R101,
R105). -/
def Obligations.NowTakeIsAppliedAtOnce : Prop :=
  ∀ (tag : Byte) (k : Nat) (s : State), s.Ready → k ≤ 15 → (s.scene k).takePending = false →
    ∃ t, exec (.sceneTakeNow tag k) s = .next t ∧ TakeApplied s t k s.factor ∧
      (t.scene k).takePending = false ∧
      t = ({ s with
        scenes := t.scenes, windows := t.windows, pins := t.pins, slots := t.slots, comp := t.comp }
        : State).replied tag 0x29 .done [] ∧
      (∀ n, t.slot n = { s.slot n with
        state := (t.slot n).state, claims := (t.slot n).claims, pinned := (t.slot n).pinned }) ∧
      t.comp.composed = s.comp.composed ∧ t.comp.portStill = s.comp.portStill ∧
      (k ∉ s.comp.composed → t.comp = s.comp) ∧
      (let kept := fun (w : Nat) (src : Shown) => s.uses k w src && (s.recorded w src).isSome
       let chosen := (t.sourcesOf k).filter fun x => s.comp.composed.contains k && !kept x.1 x.2
       (∀ w src, (w, src) ∈ chosen → t.recorded w src = some (t.choiceFor true w src)) ∧
       (∀ w src, (w, src) ∉ chosen → t.recorded w src = s.recorded w src) ∧
       (k ∈ s.comp.composed → ∀ w src, t.uses k w src = true → (t.recorded w src).isSome = true) ∧
       (SceneTablesSound s → ∀ n, n < 96 → (t.slot n).claims = claimsAfter (s.slot n).claims
         ((chosen.filter fun x => t.claimFor true x.1 x.2 == some n).length
           + ((List.range 64).filter fun w => (s.window w).binding == some k && (s.scene k).liveList.contains w
               && (s.window w).frozen && !(t.window w).frozen && s.pin w == some n).length)))

/-- SCENE_TAKE_APPLY, as an event of its own (log entry 2): the pending FRAME take of the scene is applied with its
recorded F, its flag is cleared, and its reply DONE takes its reserved place; the pins of the windows it unfreezes are
released without a claim, as at a boundary (R53, R98, R100, R105; log entry 36). -/
def Obligations.PendingTakeIsApplied : Prop :=
  ∀ (k : Fin 16) (f : Nat) (before after : List PendingRequest) (e : PendingRequest) (s : State),
    s.resetLine = false → s.link.table = before ++ e :: after → e.target = .take k.val f →
    (∀ x ∈ before ++ after, x.target.isTakeOf k.val = false) →
    ∃ t, exec (.sceneTakeApply k) s = .next t ∧ TakeApplied s t k.val f ∧ (t.scene k.val).takePending = false ∧
      t = { s.ended before after e .done with
        scenes := t.scenes, windows := t.windows, pins := t.pins, slots := t.slots } ∧
      ∀ n, t.slot n = { s.slot n with state := (t.slot n).state, pinned := (t.slot n).pinned }

/-- The end of a transition by its count, as an event of its own (log entry 2): the window shows the new source and
its state is NONE (R102, R103). At its expiry a tour steps to the next eligible entry, through the window's live
transition where that changes the source, with TOUR STEP raised; where none is eligible it stays; its frames remaining
are reloaded in every case (R111, R112). -/
def Obligations.TransitionsAndDwellsEnd : Prop :=
  (∀ (w : Fin 64) (s : State), s.resetLine = false → s.inLive w.val = true → (s.window w.val).frozen = false →
    (∀ r next, (s.window w.val).trans = .dead r next → r ≤ 1 →
      exec (.deadFramesEnd w) s = .next { s with
        windows := put s.windows w.val { s.window w.val with shown := next, trans := .none } }) ∧
    (∀ k n old new, (s.window w.val).trans = .mix k n old new → n ≤ k →
      exec (.mixEnd w) s = .next { s with
        windows := put s.windows w.val { s.window w.val with shown := new, trans := .none } })) ∧
  ∀ (w : Fin 64) (s : State), s.resetLine = false → s.inLive w.val = true → (s.window w.val).frozen = false →
    (s.window w.val).live.source = .tour → (s.window w.val).tourRemaining ≤ 1 →
    let x := s.window w.val
    let list := x.live.tourList
    (∀ d q entry, 1 ≤ d → d < list.length → q = (x.tourPosition + d) % list.length → list[q]? = some entry →
      s.eligible entry = true →
      (∀ d', 1 ≤ d' → d' < d → ∀ other, list[(x.tourPosition + d') % list.length]? = some other →
        s.eligible other = false) →
      exec (.tourExpiry w) s = .next { s with
        windows := put s.windows w.val
          (let y := { x with tourRemaining := x.tourPeriod, tourPosition := q }
           if entry.shown = x.target then y else y.movesTo entry.shown)
        events := s.events.raised (.tourStep w.val q entry.shown) }) ∧
    ((∀ d, 1 ≤ d → d < list.length → ∀ other, list[(x.tourPosition + d) % list.length]? = some other →
        s.eligible other = false) →
      exec (.tourExpiry w) s = .next { s with
        windows := put s.windows w.val { x with tourRemaining := x.tourPeriod } })

/-- A freeze order ON carried out, as an event of its own (R51, R104, R107; log entry 2): the transition in progress is
completed and the window frozen. A window on an input that can supply frames gets its pin on the slot of its rank, which
leaves the age list; where the pin would leave fewer than three slots unpinned it is not made and the window stays
unfrozen; any other window is frozen by the flag alone. A window already frozen, or in no live list, only loses its
order. That the rank is counted in the age list as it stands, already shortened by a pin made alone before it, is the
model's choice (log entry 36). -/
def Obligations.FreezeOrderOnFreezesAndPins : Prop :=
  ∀ (w : Fin 64) (s : State), s.resetLine = false → (s.window w.val).freezeOrder = .on →
    let x := s.window w.val
    let done := { x with shown := x.target, trans := .none, freezeOrder := .none, frozen := true }
    (x.frozen = true ∨ s.inLive w.val = false →
      exec (.freezeOrderOn w) s = .next { s with windows := put s.windows w.val { x with freezeOrder := .none } }) ∧
    (x.frozen = false → s.inLive w.val = true →
      ((∀ i, x.target = .input i → s.able i = false ∨ (s.ring i).age = []) →
        exec (.freezeOrderOn w) s = .next { s with windows := put s.windows w.val done }) ∧
      (∀ i newer n older, x.target = .input i → s.able i = true → (s.ring i).age = newer ++ n :: older →
        newer.length = min (min x.live.delay (s.unpinned i - 3)) ((s.ring i).age.length - 1) →
        ((s.slot n).pinned = none → s.unpinned i < 4 →
          exec (.freezeOrderOn w) s = .next { s with windows := put s.windows w.val { done with frozen := false } }) ∧
        (n < 96 → i < 16 → (s.slot n).pinned.isSome = true ∨ 4 ≤ s.unpinned i →
          ∃ t, exec (.freezeOrderOn w) s = .next t ∧
            t = { s with
              windows := put s.windows w.val done
              pins := put s.pins w.val (some n)
              rings := put s.rings i ((s.ring i).leave n)
              slots := t.slots, comp := t.comp } ∧
            (t.slot n).state = (s.slot n).state ∧
            (∃ v, (t.slot n).pinned = some v ∧ t.pin v = some n ∧ ∀ u, u < v → t.pin u ≠ some n) ∧
            (∀ m, m ≠ n → t.slot m = s.slot m) ∧
            (s.inComposed w.val = false → t.comp = s.comp ∧ (t.slot n).claims = (s.slot n).claims) ∧
            (s.inComposed w.val = true → (t.slot n).claims = min ((s.slot n).claims + 1) 32
              ∧ t.comp = { s.comp with
                record := (s.comp.record.filter fun e => !e.isOf w.val (.input i)) ++ [⟨w.val, .input i, .slot n⟩] }))))

/-- A freeze order OFF carried out, as an event of its own (R53, R108; log entry 2): a frozen window is unfrozen and its
pin released, without a claim as at a boundary (log entry 36); the slot becomes STALE unless another window still pins
it. A window that is not frozen only loses its order. -/
def Obligations.FreezeOrderOffReleasesThePin : Prop :=
  ∀ (w : Fin 64) (s : State), s.resetLine = false → (s.window w.val).freezeOrder = .off →
    let x := s.window w.val
    let done := { x with freezeOrder := .none, frozen := false }
    (x.frozen = false →
      exec (.freezeOrderOff w) s = .next { s with windows := put s.windows w.val { x with freezeOrder := .none } }) ∧
    (x.frozen = true → s.pin w.val = none →
      exec (.freezeOrderOff w) s = .next { s with windows := put s.windows w.val done }) ∧
    (∀ n, x.frozen = true → s.pin w.val = some n → n < 96 →
      ((∀ v, v ≠ w.val → s.pin v ≠ some n) →
        exec (.freezeOrderOff w) s = .next { s with
          windows := put s.windows w.val done
          pins := put s.pins w.val none
          slots := put s.slots n { s.slot n with pinned := none, state := .stale } }) ∧
      (∀ v, v ≠ w.val → s.pin v = some n → (∀ u, u < v → u ≠ w.val → s.pin u ≠ some n) →
        exec (.freezeOrderOff w) s = .next { s with
          windows := put s.windows w.val done
          pins := put s.pins w.val none
          slots := put s.slots n { s.slot n with pinned := some v } }))

/-! ### Ports -/

/-- An accepted Port Setup stores its nine fields and acts on the state and the cause set in one event (R131 to R134,
R138, R142). `x` is the port with the new settings and with the causes that the levels of the lines give it. -/
def Obligations.PortSetupActsInOneEvent : Prop :=
  ∀ (tag : Byte) (p : PortSetupFields) (s : State), s.Ready → portSetupOk p = true → PortSound s p.port →
    let old := s.port p.port
    let x : Port := { old with
      enable := p.enable == 1, depth10 := p.depth == 1, full := p.range == 1, protectA := p.protectA == 1,
      protectB := p.protectB == 1,
      action := if p.action = 0 then .black else if p.action = 1 then .still else .scene,
      index := p.index, auto := p.restart == 1,
      causeA := p.protectA == 1 && s.overrideA, causeB := p.protectB == 1 && s.overrideB }
    let write := fun (q : Port) => ({ s with ports := put s.ports p.port q } : State)
    let report := fun (q : Port) => ({ s with
      ports := put s.ports p.port q
      events := s.events.raised (.portProtect p.port x.causeA x.causeB x.hold) } : State)
    (p.enable = 0 →
      exec (.portSetup tag p) s = .next ((write { x with
        state := .disabled, causeA := false, causeB := false, hold := false, showing := .black }).replied
          tag 0x30 .done [])) ∧
    (p.enable = 1 → old.state = .disabled → x.causeA = false → x.causeB = false →
      exec (.portSetup tag p) s = .next ((write { x with state := .starting, showing := .black }).replied
        tag 0x30 .done [])) ∧
    (p.enable = 1 → old.state ≠ .protected_ → x.causeA = true ∨ x.causeB = true →
      exec (.portSetup tag p) s = .next ((report { x with state := .protected_, showing := .black }).replied
        tag 0x30 .done [])) ∧
    (p.enable = 1 → old.state ≠ .disabled → old.state ≠ .protected_ → x.causeA = false → x.causeB = false →
      exec (.portSetup tag p) s = .next ((write x).replied tag 0x30 .done [])) ∧
    (p.enable = 1 → old.state = .protected_ →
      let y := if x.auto = true ∧ x.causeA = false ∧ x.causeB = false ∧ x.hold = false
        then { x with state := .resuming } else x
      exec (.portSetup tag p) s = .next ((if x.causeA = old.causeA ∧ x.causeB = old.causeB then write y
        else report y).replied tag 0x30 .done []))

/-- Port Hold and Port Resume with their checks in order, each refusal changing nothing. Port Hold adds HOLD to the
cause set, and a port that is sending its picture enters PROTECTED with a black remainder and PORT PROTECT raised; a set
that already holds HOLD is left as it is (R136). Port Resume, with no override line among the port's protect sources
asserted, empties the cause set and moves the port to RESUMING, under either restart setting, raising nothing (R137). -/
def Obligations.HoldAndResumeFollowTheirRules : Prop :=
  ∀ (tag : Byte) (n : Nat) (s : State), s.Ready →
    (11 < n → exec (.portHold tag n) s = .next (s.replied tag 0x32 .range [])) ∧
    (n ≤ 11 → (s.port n).state = .disabled → exec (.portHold tag n) s = .next (s.replied tag 0x32 .state [])) ∧
    (n ≤ 11 → (s.port n).state = .starting ∨ (s.port n).state = .normal ∨ (s.port n).state = .resuming →
      exec (.portHold tag n) s = .next (({ s with
        ports := put s.ports n { s.port n with state := .protected_, showing := .black, hold := true }
        events := s.events.raised (.portProtect n (s.port n).causeA (s.port n).causeB true) } : State).replied
          tag 0x32 .done [])) ∧
    (n ≤ 11 → (s.port n).state = .protected_ → (s.port n).hold = false →
      exec (.portHold tag n) s = .next (({ s with
        ports := put s.ports n { s.port n with hold := true }
        events := s.events.raised (.portProtect n (s.port n).causeA (s.port n).causeB true) } : State).replied
          tag 0x32 .done [])) ∧
    (n ≤ 11 → (s.port n).state = .protected_ → (s.port n).hold = true →
      exec (.portHold tag n) s = .next (s.replied tag 0x32 .done [])) ∧
    (11 < n → exec (.portResume tag n) s = .next (s.replied tag 0x33 .range [])) ∧
    (n ≤ 11 → (s.port n).state ≠ .protected_ →
      exec (.portResume tag n) s = .next (s.replied tag 0x33 .state [])) ∧
    (n ≤ 11 → (s.port n).state = .protected_ →
      ((s.port n).protectA = true ∧ s.overrideA = true) ∨ ((s.port n).protectB = true ∧ s.overrideB = true) →
      exec (.portResume tag n) s = .next (s.replied tag 0x33 .causeActive [])) ∧
    (n ≤ 11 → (s.port n).state = .protected_ →
      ((s.port n).protectA = true → s.overrideA = false) → ((s.port n).protectB = true → s.overrideB = false) →
      exec (.portResume tag n) s = .next (({ s with
        ports := put s.ports n { s.port n with state := .resuming, causeA := false, causeB := false, hold := false } }
        : State).replied tag 0x33 .done []))

/-- An accepted NOW assign stores the scene at once; a port in NORMAL shows it from the next line, and a scene not
composed yet is composed for the rest of the frame: every source of its windows is chosen for as within a frame and
recorded, in place of any earlier choice for it, and each choice of a slot adds one claim (R26, R49, R50, R139,
R140). -/
def Obligations.NowAssignIsStoredAtOnce : Prop :=
  ∀ (tag : Byte) (n : Nat) (s : State), s.Ready → n ≤ 11 → s.hasPending (·.isAssignOf n) = false →
    (∀ k, k ≤ 15 → (s.port n).state ≠ .normal →
      exec (.portAssignNow tag n k) s = .next (({ s with
        ports := put s.ports n { s.port n with assigned := some k } } : State).replied tag 0x31 .done [])) ∧
    ((s.port n).state ≠ .normal →
      exec (.portAssignNow tag n 255) s = .next (({ s with
        ports := put s.ports n { s.port n with assigned := none } } : State).replied tag 0x31 .done [])) ∧
    ((s.port n).state = .normal →
      exec (.portAssignNow tag n 255) s = .next (({ s with
        ports := put s.ports n { s.port n with assigned := none, showing := .black } } : State).replied
          tag 0x31 .done [])) ∧
    (∀ k, k ≤ 15 → (s.port n).state = .normal → k ∈ s.comp.composed →
      exec (.portAssignNow tag n k) s = .next (({ s with
        ports := put s.ports n { s.port n with assigned := some k, showing := .scene k } } : State).replied
          tag 0x31 .done [])) ∧
    (∀ k, k ≤ 15 → (s.port n).state = .normal → k ∉ s.comp.composed →
      ∃ t, exec (.portAssignNow tag n k) s = .next t ∧
        t = ({ s with
          ports := put s.ports n { s.port n with assigned := some k, showing := .scene k }
          slots := t.slots, comp := t.comp } : State).replied tag 0x31 .done [] ∧
        (∀ m, t.slot m = { s.slot m with claims := (t.slot m).claims }) ∧
        t.comp.composed = s.comp.composed ++ [k] ∧ t.comp.portStill = s.comp.portStill ∧
        (∀ w src, (w, src) ∈ s.sourcesOf k → t.recorded w src = some (s.choiceFor true w src)) ∧
        (∀ w src, (w, src) ∉ s.sourcesOf k → t.recorded w src = s.recorded w src) ∧
        (SceneTablesSound s → ∀ m, m < 96 → (t.slot m).claims = claimsAfter (s.slot m).claims
          ((s.sourcesOf k).filter fun x => s.claimFor true x.1 x.2 == some m).length))

/-- The assertion of an override line, on each port (R133, R134, R142): a port in STARTING, NORMAL or RESUMING with the
line among its protect sources enters PROTECTED with a black remainder; a PROTECTED one gains the cause; every other
port is unaffected. Each port whose cause set changes raises PORT PROTECT with its new set, in increasing port number
(log entry 10), and nothing else is raised: the pending set is otherwise as it was. -/
def Obligations.OverrideAssertProtects : Prop :=
  ∀ (line : OverrideLine) (s : State), s.resetLine = false →
    ∃ t, exec (.overrideAssert line) s = .next t ∧
      t = { s.setLine line true with ports := t.ports, events := t.events } ∧
      ((∀ p, p < 12 → PortSound s p) →
        let gains := fun (p : Nat) => (s.port p).protects line && ((s.port p).state == .starting
          || (s.port p).state == .normal || (s.port p).state == .resuming
          || ((s.port p).state == .protected_ && (s.port p).withCause line true != s.port p))
        t.events = ((List.range 12).filter gains).foldl
          (fun u p => u.raised (.portProtect p (t.port p).causeA (t.port p).causeB (t.port p).hold)) s.events) ∧
      ∀ p, p < 12 → PortSound s p →
        ((s.port p).state = .disabled ∨ (s.port p).protects line = false → t.port p = s.port p) ∧
        ((s.port p).protects line = true →
          (s.port p).state = .starting ∨ (s.port p).state = .normal ∨ (s.port p).state = .resuming →
          t.port p = { (s.port p).withCause line true with state := .protected_, showing := .black } ∧
          (s.events.enabled 2 = true → ∃ x ∈ t.events.entries,
            x.event = .portProtect p (t.port p).causeA (t.port p).causeB (t.port p).hold)) ∧
        ((s.port p).protects line = true → (s.port p).state = .protected_ →
          t.port p = (s.port p).withCause line true ∧
          (s.events.enabled 2 = true → (s.port p).withCause line true ≠ s.port p → ∃ x ∈ t.events.entries,
            x.event = .portProtect p (t.port p).causeA (t.port p).causeB (t.port p).hold))

/-- The deassertion of an override line, on each port (R133, R138, R142): a PROTECTED port loses the cause, and under
AUTO with no cause left it enters RESUMING in the same event; no other port changes. Each port whose cause set changes
raises PORT PROTECT with its new set, in increasing port number (log entry 10), and nothing else is raised. -/
def Obligations.OverrideDeassertReleases : Prop :=
  ∀ (line : OverrideLine) (s : State), s.resetLine = false →
    ∃ t, exec (.overrideDeassert line) s = .next t ∧
      t = { s.setLine line false with ports := t.ports, events := t.events } ∧
      ((∀ p, p < 12 → PortSound s p) →
        let loses := fun (p : Nat) => (s.port p).protects line && (s.port p).state == .protected_
          && (s.port p).withCause line false != s.port p
        t.events = ((List.range 12).filter loses).foldl
          (fun u p => u.raised (.portProtect p (t.port p).causeA (t.port p).causeB (t.port p).hold)) s.events) ∧
      ∀ p, p < 12 → PortSound s p →
        ((s.port p).state ≠ .protected_ ∨ (s.port p).protects line = false → t.port p = s.port p) ∧
        ((s.port p).protects line = true → (s.port p).state = .protected_ →
          let q := (s.port p).withCause line false
          t.port p = (if q.auto = true ∧ q.noCause = true then { q with state := .resuming } else q) ∧
          (s.events.enabled 2 = true → q ≠ s.port p → ∃ x ∈ t.events.entries,
            x.event = .portProtect p q.causeA q.causeB q.hold))

/-- The start time of the next line (R62, R117): the line's number divides the frame at 1125 lines to a nominal period,
every enabled port sends the line of its picture in progress in its own range and depth, and a DISABLED port sends
none. In blanking no line starts. -/
def Obligations.LinesStartAtTheirSpacing : Prop :=
  ∀ s : State, s.resetLine = false →
    (1080 ≤ s.nextLine → exec .outputLineStart s = .next s) ∧
    (s.nextLine < 1080 →
      ∃ t, exec .outputLineStart s = .next t ∧
        t = { s with
          now := max s.now (s.time.frameBegan + s.nextLine * (s.time.rate.period / 1125))
          nextLine := s.nextLine + 1
          ports := t.ports } ∧
        ∀ p, p < 12 →
          ((s.port p).state = .disabled → t.port p = { s.port p with line := none }) ∧
          ((s.port p).state ≠ .disabled → ∃ pixels : List Colour,
            t.port p = { s.port p with line := some ⟨s.nextLine, pixels⟩ } ∧ pixels.length = 1920 ∧
            ∀ x, x < 1920 →
              ((s.port p).showing = .black → pixels[x]? = some (convert (s.port p) ⟨64, 512, 512⟩)) ∧
              (∀ k, (s.port p).showing = .scene k →
                pixels[x]? = some (convert (s.port p) (scenePixel t k x s.nextLine))) ∧
              (∀ e, (s.port p).showing = .still e →
                pixels[x]? = some (convert (s.port p) (stillPixel t p x s.nextLine)))))

/-! ### Endings of pending requests -/

/-- The endings that a boundary brings, each as its own event (log entry 2): a FRAME assign stores its scene and an
Input Reset completes, both with DONE; a grab whose count reaches 0 fails with TIMEOUT and its reservation returns to
the pool (R37, R139, R154). -/
def Obligations.PendingRequestsEnd : Prop :=
  ∀ (before after : List PendingRequest) (e : PendingRequest) (s : State), s.resetLine = false →
    s.link.table = before ++ e :: after →
    (∀ (n : Fin 12) scene, e.target = .assign n.val scene →
      (∀ x ∈ before ++ after, x.target.isAssignOf n.val = false) →
      exec (.portAssignComplete n) s = .next (({ s with
        ports := put s.ports n.val { s.port n.val with assigned := scene } } : State).ended before after e .done)) ∧
    (∀ i : Fin 16, e.target = .reset i.val → (∀ x ∈ before ++ after, x.target.isResetOf i.val = false) →
      exec (.inputResetComplete i) s = .next (s.ended before after e .done)) ∧
    (∀ (i : Fin 16) d left r, e.target = .grab i.val d left → left ≤ 1 →
      (∀ x ∈ before ++ after, x.target.isGrabOf i.val = false) → s.reservation i.val = some r →
      exec (.grabTimeout i) s = .next (({ s with
        slots := put s.slots r { s.slot r with state := .free, owner := .none, sequence := 0, format := none }
        reservations := put s.reservations i.val none } : State).ended before after e .timeout))

/-! ### The time base -/

/-- Timing Setup is refused with RANGE by its fields alone. Otherwise, in every timing state, it stages its rate and
lock source in place of any staged before, and changes nothing in force. Settings equal to those in force change nothing
when they are applied but the time, which reaches their boundary (R68, R69). That the application can be commanded by
itself, and only while a boundary is scheduled, is the model's reading (log entries 2 and 19). -/
def Obligations.TimingSetupOnlyStages : Prop :=
  (∀ (b : Ticks) (s : State), s.resetLine = false → s.time.nextBoundary = some b → TimingSound s →
    s.time.staged = some (s.time.rate, s.time.source) →
    exec .timingSetupApply s = .next { s with now := max s.now b, time := { s.time with staged := none } }) ∧
  ∀ (tag : Byte) (rate source input : Nat) (s : State), s.Ready →
    (2 < rate ∨ 2 < source ∨ 15 < input →
      exec (.timingSetup tag rate source input) s = .next (s.replied tag 0x38 .range [])) ∧
    (rate ≤ 2 → source ≤ 2 → input ≤ 15 →
      exec (.timingSetup tag rate source input) s = .next (({ s with
        time := { s.time with
          staged := some (if rate = 0 then .r50 else if rate = 1 then .r5994 else .r60,
            if source = 0 then .free else if source = 1 then .reference else .input input) } } : State).replied
              tag 0x38 .done []))

/-- The application of staged settings at a boundary that is scheduled, at that boundary's instant, and the settling
of the timing state by the new lock source's presence (R69 (1), (2)), with TIMING raised at a change (R70). Under a
new rate presence of REFERENCE is worked out again from its record (R63), and no measured period of the old rate goes
on but that of a source that keeps TRACKING (log entry 32). `settled` carries to the boundary what it must not count
or must align. The model's choices: the event stands by itself (log entry 2), and a held period that no lock point
ever measured is a free value (log entry 5). -/
def Obligations.StagedTimingIsSettled : Prop :=
  ∀ (b : Ticks) (r : Rate) (src : LockSource) (s : State), s.resetLine = false → s.time.nextBoundary = some b →
    s.time.staged = some (r, src) →
    ∃ t, exec .timingSetupApply s = .next t ∧
      t = { s with now := max s.now b, time := t.time, events := t.events } ∧
      t.time = { s.time with
        rate := r, source := src, staged := none, timing := t.time.timing, measured := t.time.measured
        holdover := t.time.holdover, refPresent := t.time.refPresent, settled := t.time.settled
        freeUses := t.time.freeUses } ∧
      (r = s.time.rate → t.time.refPresent = s.time.refPresent) ∧
      (r ≠ s.time.rate → (t.time.refPresent = true ↔ ∃ p x, s.time.reference = some p ∧ p.interval = some x
        ∧ r.inReferenceBand x = true ∧ 2 * (max s.now b - p.time) ≤ 3 * r.period)) ∧
      (src = .free → t.time.timing = .freeRun ∧ t.time.holdover = 0
        ∧ (r ≠ s.time.rate → t.time.measured = none)) ∧
      (src ≠ .free → r ≠ s.time.rate → t.lockPresent = true →
        t.time.timing = .tracking ∧
        (s.time.timing = .tracking → src = s.time.source →
          (s.time.settled = .plain → t.time.settled ≠ .align) ∧ t.time.holdover = s.time.holdover ∧
          ∀ m, s.time.measured = some m → r.shortest ≤ m → m ≤ r.longest → t.time.measured = some m) ∧
        (s.time.timing ≠ .tracking ∨ src ≠ s.time.source →
          t.time.settled = .align ∧ t.time.holdover = 0 ∧ t.time.measured = none)) ∧
      (src ≠ .free → r ≠ s.time.rate → t.lockPresent = false →
        t.time.timing = .freeRun ∧ t.time.holdover = 0 ∧ t.time.measured = none) ∧
      (src ≠ .free → r = s.time.rate → src ≠ s.time.source → t.lockPresent = true →
        t.time.timing = .tracking ∧ t.time.settled = .align ∧ t.time.holdover = 0) ∧
      (src ≠ .free → r = s.time.rate → src ≠ s.time.source → t.lockPresent = false →
        (s.time.timing = .tracking → t.time.timing = .holdover ∧ t.time.holdover = 10 * r.factor
          ∧ t.time.settled = .held ∧ t.time.measured.isSome = true
          ∧ (s.time.measured = none → ∀ m, t.time.measured = some m → r.shortest ≤ m ∧ m ≤ r.longest)) ∧
        (s.time.timing ≠ .tracking → t.time.timing = s.time.timing ∧ t.time.holdover = s.time.holdover
          ∧ t.time.settled = s.time.settled)) ∧
      (r = s.time.rate → ∀ m, s.time.measured = some m → t.time.measured = some m) ∧
      (src ≠ .free → r = s.time.rate → src = s.time.source → t.time.timing = s.time.timing
        ∧ t.time.holdover = s.time.holdover ∧ t.time.settled = s.time.settled) ∧
      (t.time.timing = s.time.timing → t.events = s.events) ∧
      (t.time.timing ≠ s.time.timing → t.events = s.events.raised (.timing t.time.timing))

/-- A reference pulse (R63 to R67): its time and interval are recorded, an interval in the band of the rate makes
REFERENCE present and any other makes it absent. With REFERENCE as the lock source a pulse in the band is a lock point:
one that makes it present first brings TRACKING, with the boundary of the frame in progress cancelled, and may itself
end that frame (R66 (1)); one in TRACKING moves the schedule (R66 (2)). A pulse that makes it absent brings HOLDOVER. -/
def Obligations.ReferencePulseSetsPresence : Prop :=
  ∀ (T : Ticks) (s : State), s.resetLine = false →
    let now := max s.now T
    ∃ t, exec (.referencePulse T) s = .next t ∧
      t = { s with now := now, time := t.time, events := t.events } ∧
      (s.time.reference = none →
        TimeFollows s.lockPresent { s.time with reference := some ⟨T, none⟩, refPresent := false } s.events t) ∧
      (∀ p, s.time.reference = some p → s.time.rate.inReferenceBand (T - p.time) = false →
        TimeFollows s.lockPresent { s.time with reference := some ⟨T, some (T - p.time)⟩, refPresent := false }
          s.events t) ∧
      (∀ p, s.time.reference = some p → s.time.rate.inReferenceBand (T - p.time) = true →
        let noted := { s.time with reference := some ⟨T, some (T - p.time)⟩, refPresent := true }
        (s.time.source ≠ .reference → t.time = noted ∧ t.events = s.events) ∧
        (s.time.source = .reference → s.time.timing = .tracking →
          LockPointTaken noted t.time now (T - p.time) ∧ t.events = s.events) ∧
        (s.time.source = .reference → s.time.timing ≠ .tracking → s.time.refPresent = false →
          LockPointTaken
            { noted with timing := .tracking, nextBoundary := none, afterNext := none, holdover := 0, settled := .plain }
            t.time now (T - p.time) ∧
          t.events = s.events.raised (.timing .tracking)) ∧
        (s.time.source = .reference → s.time.timing ≠ .tracking → s.time.refPresent = true →
          t.time = noted ∧ t.events = s.events))

/-- The events of the time base that fall at an instant of its own: the reference timeout, 1.5 nominal periods after the
last pulse, which makes REFERENCE absent and, where it was tracked, brings HOLDOVER (R63, R66 (3)); the midway lock
point of an input of class 25 or 30, which acts on the schedule as every lock point does (R64, R66); and the expiry of
HOLDOVER, which R67 places at a boundary and which as a command of its own may also come away from one, the model's
reading (log entry 2). -/
def Obligations.ScheduledTimingEventsAct : Prop :=
  ∀ s : State, s.resetLine = false →
    (∀ p, s.time.reference = some p →
      ∃ t, exec .referenceTimeout s = .next t ∧
        t = { s with now := max s.now (p.time + 3 * s.time.rate.period / 2), time := t.time, events := t.events } ∧
        TimeFollows s.lockPresent { s.time with refPresent := false } s.events t) ∧
    (∀ (i : Fin 16) T half, (s.input i.val).midway = some (T, half) →
      ∃ t, exec (.lockPointMidway i) s = .next t ∧
        t = { s with
          now := max s.now T, inputs := put s.inputs i.val { s.input i.val with midway := none }, time := t.time } ∧
        (s.time.source = .input i.val → s.lockPresent = true → s.time.timing = .tracking →
          LockPointTaken s.time t.time (max s.now T) half) ∧
        (s.time.source ≠ .input i.val ∨ s.lockPresent = false ∨ s.time.timing ≠ .tracking → t.time = s.time)) ∧
    (s.time.timing = .holdover → s.time.holdover ≤ 1 → s.time.settled ≠ .held →
      exec .holdoverExpiry s = .next { s with
        time := { s.time with timing := .freeRun, holdover := 0 }
        events := s.events.raised (.timing .freeRun) })

/-- The boundary that the time base takes at its scheduled instant, which alone begins the next frame (R65 to R67, R69).
Staged settings are first applied and settled, as by TIMING_SETUP_APPLY. Then in FREE_RUN the next boundary falls one
nominal period later; in HOLDOVER one held period later with the count 1 less, or not counted where HOLDOVER was entered
at this boundary, or in FREE_RUN when the count runs out; in TRACKING one measured period later, or at the time that a
delayed lock point fixed, though no frame is shorter than R62 allows (log entry 33), and not at all while alignment
waits for a lock point. -/
def Obligations.BoundariesFollowTheTimingState : Prop :=
  (∀ (b : Ticks) (s u : State), s.resetLine = false → s.time.nextBoundary = some b → s.time.staged.isSome = true →
    exec .timingSetupApply s = .next u →
    u.time.nextBoundary = some b ∧ u.time.staged = none ∧
    exec .outputFrameBoundary s = exec .outputFrameBoundary u) ∧
  ∀ (b : Ticks) (s : State), s.resetLine = false → s.time.nextBoundary = some b → s.time.staged = none →
    ∃ t, exec .outputFrameBoundary s = .next t ∧ t.now = max s.now b ∧
      t.time = { s.time with
        timing := t.time.timing, holdover := t.time.holdover, nextBoundary := t.time.nextBoundary
        frameBegan := b, afterNext := none, settled := .plain } ∧
      (s.time.timing = .freeRun →
        t.time.timing = .freeRun ∧ t.time.nextBoundary = some (b + s.time.rate.period)) ∧
      (s.time.timing = .tracking → t.time.timing = .tracking ∧
        (s.time.settled = .align → t.time.nextBoundary = none) ∧
        (∀ c, s.time.settled ≠ .align → s.time.afterNext = some c →
          t.time.nextBoundary = some (max (b + s.time.rate.shortest) c)) ∧
        (∀ m, s.time.settled ≠ .align → s.time.afterNext = none → s.time.measured = some m →
          t.time.nextBoundary = some (max (b + s.time.rate.shortest) (b + m)))) ∧
      (∀ m, s.time.timing = .holdover → s.time.measured = some m →
        (s.time.settled = .held →
          t.time.timing = .holdover ∧ t.time.holdover = s.time.holdover ∧ t.time.nextBoundary = some (b + m)) ∧
        (s.time.settled ≠ .held → 2 ≤ s.time.holdover →
          t.time.timing = .holdover ∧ t.time.holdover = s.time.holdover - 1 ∧ t.time.nextBoundary = some (b + m))) ∧
      (s.time.timing = .holdover → s.time.settled ≠ .held → s.time.holdover ≤ 1 →
        t.time.timing = .freeRun ∧ t.time.holdover = 0 ∧ t.time.nextBoundary = some (b + s.time.rate.period))

/-- An output frame boundary, block by block in order: the time base and the frame store open it (R29, R41, R69 to R71);
the scene tables advance every transition and tour, apply the pending FRAME takes in order of acceptance and carry out
the freeze orders (R96); each port stores its assign, settles and chooses its picture (R135, R141); the compositor takes
the pins of the new freezes, then chooses for every source of the displayed scenes, records and claims (R45 to R52); and
the pending requests that end here are answered in the order of acceptance (R154). The picture of a PROTECTED port whose
still entry is empty, and the order of the events raised, are the model's choices (log entries 31 and 15). So no
settings stay staged, no slot is RETIRING, no age-list entry is fresh, no freeze order is left, and no port is still
STARTING or RESUMING. The capture units, the still table, the pixels of the slots and the lines are untouched. What the
time base leaves stands in BoundariesFollowTheTimingState. -/
def Obligations.BoundaryLeavesNothingOver : Prop :=
  ∀ (b : Ticks) (s : State), s.resetLine = false → s.time.nextBoundary = some b →
    ∃ t, exec .outputFrameBoundary s = .next t ∧ t.now = max s.now b ∧ t.time.frameBegan = b ∧ t.nextLine = 0 ∧
      t.time.staged = none ∧ t.time.settled = .plain ∧
      t.inputs = s.inputs ∧ t.stills = s.stills ∧ t.overrideA = s.overrideA ∧ t.overrideB = s.overrideB ∧
      t.resetLine = s.resetLine ∧ (∀ n, (t.slot n).picture = (s.slot n).picture) ∧
      (∀ n, (t.slot n).state ≠ .retiring) ∧ (∀ i, (t.ring i).fresh = 0) ∧
      (∀ w, (t.window w).freezeOrder = .none) ∧
      (∀ p, (t.port p).state ≠ .starting ∧ (t.port p).state ≠ .resuming) ∧
      t.comp.composed = t.displayedScenes ∧
      (∃ opened advanced taken frozen shown pinned claimed : State,
        BoundaryOpened s opened b ∧ Advanced opened advanced ∧
        TakesApplied (s.link.table.filterMap fun e => match e.target with
          | .take k f => some (k, f)
          | .assign .. | .grab .. | .reset _ => none) advanced taken ∧
        FreezesCarriedOut taken frozen ∧
        shown = { frozen with ports := shown.ports } ∧ (∀ p, p < 12 → PortAtBoundary frozen shown p) ∧
        PinsTaken (fun i => (shown.ring i).age)
          ((List.range 64).filter fun w =>
            (taken.window w).freezeOrder == .on && taken.inLive w && !(taken.window w).frozen)
          { shown with comp := ⟨[], shown.displayedScenes, Vector.replicate 12 none⟩ } pinned ∧
        ClaimsMade pinned claimed ∧
        t = { claimed with nextLine := 0, link := t.link } ∧
        t.link = { s.link with table := t.link.table, replies := t.link.replies, reserved := t.link.reserved }) ∧
      t.link.table = s.link.table.filterMap (fun e => match e.target with
        | .grab i d left => if 2 ≤ left then some ⟨e.tag, .grab i d (left - 1)⟩ else none
        | .take .. | .assign .. | .reset _ => none) ∧
      t.link.replies = s.link.replies ++ s.link.table.filterMap (fun e => match e.target with
        | .grab _ _ left => if 2 ≤ left then none else some ⟨e.tag, 0x18, .timeout, []⟩
        | .take .. => some ⟨e.tag, 0x29, .done, []⟩
        | .assign .. => some ⟨e.tag, 0x31, .done, []⟩
        | .reset _ => some ⟨e.tag, 0x11, .done, []⟩)

/-! ### The capture units -/

/-- A frame start (R2 (1), R3, R6, R15, R42, R64, R66): a unit in OFF takes no notice; a frame still in progress first
ends early; otherwise the frame becomes the frame in progress and the timer restarts if it runs. In LOCKED, in SUSPECT,
and in QUALIFYING with a supported counted format and a count of at least K − 1, the frame is to be stored, and its
write slot becomes FILLING; a frame that finds no slot is not stored, which is the model's choice (log entry 8). In
LOCKED an interval of the locked class is a lock point, which the time base takes where it tracks this input. An
interval of the counted class 25 or 30 brings a midway instant, half the interval in whole ticks later (log entry 7), in
whatever state: a frame that locks the input before then has its midway lock point too. Another start leaves an earlier
midway instant that is still to come. -/
def Obligations.FrameStartBeginsAFrame : Prop :=
  ∀ (i : Fin 16) (T : Ticks) (w h : Nat) (prog : Bool) (s : State), s.resetLine = false →
    ((s.input i.val).state = .off → exec (.frameStart i T w h prog) s = .next (s.reach T)) ∧
    (∀ u, (s.input i.val).frame.isSome = true → exec (.lossOfSignal i T) s = .next u →
      exec (.frameStart i T w h prog) s = exec (.frameStart i T w h prog) u) ∧
    ((s.input i.val).state ≠ .off → (s.input i.val).frame = none →
      let u := s.input i.val
      let stores := u.state = .locked ∨ u.state = .suspect
        ∨ (u.state = .qualifying ∧ u.k ≤ u.count + 1 ∧ ∃ g, u.counted = some g ∧ g.supported = true)
      ∃ t stored, exec (.frameStart i T w h prog) s = .next t ∧
        t = { s with
          now := max s.now T
          inputs := put s.inputs i.val { u with
            lastStart := some T
            timer := u.timer.map fun _ => T + 50 * 135000
            frame := some ⟨w, h, u.lastStart.bind fun last => rateClass (T - last), prog, stored⟩
            midway := (t.input i.val).midway }
          slots := t.slots, rings := t.rings, time := t.time } ∧
        (¬stores ∨ s.writeSlot i.val = none → stored = false ∧ t.slots = s.slots ∧ t.rings = s.rings) ∧
        (∀ n, stores → s.writeSlot i.val = some n → stored = true ∧
          t.slots = put s.slots n { s.slot n with
            state := .filling, owner := .input i.val, sequence := 0, format := none } ∧
          t.rings = put s.rings i.val ((s.ring i.val).leave n) ∧ n ∉ (t.ring i.val).age) ∧
        (let kept := u.midway.filter fun m => T ≤ m.1
         let follows := s.time.source = .input i.val ∧ s.lockPresent = true ∧ s.time.timing = .tracking ∧ u.state = .locked
         (∀ g last, u.counted = some g → u.lastStart = some last → rateClass (T - last) = some g.rate →
           (g.rate = .r50 ∨ g.rate = .r60 → (t.input i.val).midway = kept ∧
             (follows → LockPointTaken s.time t.time (max s.now T) (T - last))) ∧
           (g.rate = .r25 ∨ g.rate = .r30 →
             (t.input i.val).midway = some (T + (T - last) / 2, (T - last) / 2) ∧
             (follows → LockPointTaken s.time t.time (max s.now T) ((T - last) / 2))) ∧
           (g.rate = .r24 → (t.input i.val).midway = kept ∧ t.time = s.time)) ∧
         (¬follows → t.time = s.time) ∧
         ((∀ last, u.lastStart = some last → ∀ g, u.counted = some g → rateClass (T - last) ≠ some g.rate) →
           (t.input i.val).midway = kept ∧ t.time = s.time)))

/-- The good end of a stored frame (R15 (1), R41, R43): a matching frame that leaves the input LOCKED adds 1 to sequence
and frames_stored, and its slot becomes COMPLETE with that sequence, the frame's format and its picture, at the head of
the age list. An input that becomes LOCKED and is the lock source brings TRACKING (R64, R65, R67). That the pixels are
written at the end, in one go, is the model's choice (log entry 26). -/
def Obligations.GoodEndCompletesTheSlot : Prop :=
  ∀ (i : Fin 16) (T : Ticks) (delivered : Picture) (f : FrameInProgress) (r : RateClass)
    (before after : List Nat) (n : Nat) (s : State), s.resetLine = false →
    let u := s.input i.val
    let g : Format := ⟨f.width, f.height, r, f.progressive⟩
    u.frame = some f → f.stored = true → f.rate = some r → u.counted = some g →
    (u.state = .locked ∨ u.state = .suspect
      ∨ (u.state = .qualifying ∧ u.k ≤ u.count + 1 ∧ g.supported = true)) →
    (u.state = .locked → u.count = 0) →
    (s.ring i.val).slots = before ++ n :: after → (s.slot n).state = .filling → n < 96 →
    (∀ m ∈ before, (s.slot m).state ≠ .filling) → s.hasPending (·.isGrabOf i.val) = false →
    ∃ t, exec (.frameEnd i T false delivered) s = .next t ∧
      t = { s with
        now := max s.now T
        inputs := put s.inputs i.val { u with
          state := .locked, count := 0, frame := none, sequence := (u.sequence + 1) % 65536
          framesStored := (u.framesStored + 1) % 4294967296 }
        slots := put s.slots n { s.slot n with
          state := .complete, owner := .input i.val, sequence := (u.sequence + 1) % 65536, format := some g
          picture := writeFrame f.width f.height delivered }
        rings := put s.rings i.val { s.ring i.val with
          age := n :: (s.ring i.val).age, fresh := (s.ring i.val).fresh + 1 }
        time := t.time, events := t.events } ∧
      TimeFollows s.lockPresent s.time
        (if u.state = .locked then s.events else s.events.raised (.inputState i.val .locked (some g))) t

/-- The completion of a pending grab at a good end (R35): the still entry holds the slot of the grabbed frame with its
sequence and format, the reservation takes its ring position as EMPTY, the entry's former slot joins the retiring set,
and the grab is answered DONE. The good end that brings SUSPECT back to LOCKED completes it too (R36). The unit is as
after every good end (R12, R15, R16); where it was not LOCKED it raises INPUT STATE and may bring TRACKING (R14, R65).
That the pixels are written at the end, in one go, is the model's choice (log entry 26), and STILL_GRAB_COMPLETE, as an
event of its own, is that frame end (log entry 2). -/
def Obligations.GrabCompletesAtAGoodEnd : Prop :=
  ∀ (i : Fin 16) (T : Ticks) (delivered : Picture) (f : FrameInProgress) (r : RateClass)
    (ringBefore ringAfter : List Nat) (n e reserved left : Nat) (before after : List PendingRequest)
    (q : PendingRequest) (s : State), s.resetLine = false →
    let u := s.input i.val
    let g : Format := ⟨f.width, f.height, r, f.progressive⟩
    u.frame = some f → f.stored = true → f.rate = some r → u.counted = some g →
    (u.state = .locked ∨ u.state = .suspect
      ∨ (u.state = .qualifying ∧ u.k ≤ u.count + 1 ∧ g.supported = true)) →
    (u.state = .locked → u.count = 0) →
    (s.ring i.val).slots = ringBefore ++ n :: ringAfter → (s.slot n).state = .filling →
    (∀ m ∈ ringBefore, (s.slot m).state ≠ .filling) → (s.ring i.val).slots.Nodup → n ∉ (s.ring i.val).age →
    s.link.table = before ++ q :: after → q.target = .grab i.val e left →
    (∀ x ∈ before ++ after, x.target.isGrabOf i.val = false) → s.reservation i.val = some reserved →
    n < 96 → reserved < 96 → reserved ≠ n → e < 16 → s.still e ≠ some n → s.still e ≠ some reserved →
    ∃ t, exec (.stillGrabComplete i T delivered) s = .next t ∧ exec (.frameEnd i T false delivered) s = .next t ∧
      t.still e = some n ∧
      t.slot n = { s.slot n with
        state := .still, owner := .still e, sequence := (u.sequence + 1) % 65536, format := some g
        picture := writeFrame f.width f.height delivered } ∧
      t.slot reserved = { s.slot reserved with state := .empty, owner := .input i.val, sequence := 0, format := none } ∧
      t.ring i.val = { s.ring i.val with slots := ringBefore ++ reserved :: ringAfter } ∧
      t.reservation i.val = none ∧
      (∀ m, m < 96 → s.still e = some m →
        t.slot m = { s.slot m with state := .retiring, owner := .none, pinned := none }) ∧
      (∀ m, m ≠ n → m ≠ reserved → s.still e ≠ some m → t.slot m = s.slot m) ∧
      (∀ d, d ≠ e → t.still d = s.still d) ∧
      t.link = ((s.ended before after q .done).link) ∧
      t = { s with
        now := max s.now T
        inputs := put s.inputs i.val { u with
          state := .locked, count := 0, frame := none, sequence := (u.sequence + 1) % 65536
          framesStored := (u.framesStored + 1) % 4294967296 }
        time := t.time, events := t.events, slots := t.slots, rings := t.rings, stills := t.stills
        reservations := t.reservations, link := t.link } ∧
      (∀ j, j ≠ i.val → t.ring j = s.ring j ∧ t.reservation j = s.reservation j) ∧
      TimeFollows s.lockPresent s.time
        (if u.state = .locked then s.events else s.events.raised (.inputState i.val .locked (some g))) t

/-- A frame that ends early, or is missing for 50 ms, is one bad-frame event (R2, R6, R9, R11 to R13, R16): the unit
goes the way of Table 1.3, with the events of R14; on entry to SEARCHING from another state the ring is marked stale and
a pending grab ends with SOURCE LOST; a slot being filled is emptied; and at an expiry the timer has restarted where it
still runs. A frame that ends at its last line is such an event too where it is damaged, by its flag or for want of a
rate class, and, in LOCKED, SUSPECT and UNSUPPORTED, where its format is another than the counted one (R5). Every other
frame end that stores no frame follows R8 to R13: a first candidate in SEARCHING, a new one in QUALIFYING, a matching
frame below the lock count and at it, and a matching frame in SUSPECT, LOCKED and UNSUPPORTED. A time base that follows
the input gains or loses it (R64 to R67); INPUT LOST then stands before TIMING, the model's order (log entry 15). While
the unit is kept out of SEARCHING no slot but the one being filled changes (R11, R12, R44). In OFF, and without a frame
in progress, nothing ends. -/
def Obligations.BadFramesFollowTheTable : Prop :=
  ∀ (i : Fin 16) (s : State), s.resetLine = false →
    let u := s.input i.val
    let emptied := fun (t : State) => ∀ before n after, n < 96 → (s.ring i.val).slots = before ++ n :: after →
      (s.slot n).state = .filling → (∀ m ∈ before, (s.slot m).state ≠ .filling) → s.reservation i.val ≠ some n →
      (t.slot n).state = .empty ∧ (t.slot n).sequence = 0 ∧ (t.slot n).format = none
    (∀ T, u.state = .off ∨ u.frame = none → exec (.lossOfSignal i T) s = .next (s.reach T) ∧
      ∀ flagged delivered, exec (.frameEnd i T flagged delivered) s = .next (s.reach T)) ∧
    (∀ T f, u.state ≠ .off → u.frame = some f → 1 ≤ u.l →
      ∃ t, exec (.lossOfSignal i T) s = .next t ∧ t.now = max s.now T ∧
        BadFrameTaken s t i.val { u with frame := none } ∧ (f.stored = true → emptied t)) ∧
    (∀ T, u.timer = some T → 1 ≤ u.l →
      ∃ t, exec (.missingFrameTimerExpiry i) s = .next t ∧ t.now = max s.now T ∧
        BadFrameTaken s t i.val { u with frame := none, timer := some (T + 50 * 135000) } ∧
        (∀ f, u.frame = some f → f.stored = true → emptied t)) ∧
    (∀ T f flagged delivered, u.frame = some f → flagged = true ∨ f.rate = none →
      exec (.frameEnd i T flagged delivered) s = exec (.lossOfSignal i T) s) ∧
    (∀ T f r delivered, u.state ≠ .off → u.frame = some f → f.rate = some r →
      let g : Format := ⟨f.width, f.height, r, f.progressive⟩
      let ends := fun (v : Input) => ∃ t, exec (.frameEnd i T false delivered) s = .next t ∧
        t.now = max s.now T ∧ UnstoredEnd s t i.val v f.stored
      (u.counted ≠ some g →
        (u.state = .locked ∨ u.state = .suspect ∨ u.state = .unsupported →
          exec (.frameEnd i T false delivered) s = exec (.lossOfSignal i T) s) ∧
        (u.state = .searching → ends { u with
          frame := none, state := .qualifying, counted := some g, count := 1, timer := some (T + 50 * 135000) }) ∧
        (u.state = .qualifying → ends { u with
          frame := none, framesBad := min (u.framesBad + 1) 65535, counted := some g, count := 1
          midway := none })) ∧
      (u.counted = some g →
        (u.state = .qualifying → u.count + 1 < u.k → ends { u with frame := none, count := u.count + 1 }) ∧
        (u.state = .qualifying → u.k ≤ u.count + 1 → g.supported = false →
          ends { u with frame := none, state := .unsupported, count := 0 }) ∧
        (u.state = .qualifying → u.k ≤ u.count + 1 → g.supported = true → f.stored = false →
          ends { u with frame := none, state := .locked, count := 0 }) ∧
        (u.state = .suspect → f.stored = false → ends { u with frame := none, state := .locked, count := 0 }) ∧
        (u.state = .locked → f.stored = false → ends { u with frame := none }) ∧
        (u.state = .unsupported → ends { u with frame := none })))

/-! ### Requests and events of the link interface and the event unit -/

/-- Event Ack is refused with RANGE where its kind is unknown or its instance does not fit the kind. Otherwise it
removes the entry of that kind and instance, reported or not, if the set holds one, and nothing else (R162). Event
Enable writes the seven enables and the four masks and keeps the entries (R160). -/
def Obligations.EventRequestsFollowTheirRules : Prop :=
  ∀ (tag : Byte) (s : State), s.Ready →
    (∀ event inst,
      let unfit := event = 0 ∨ 7 < event ∨ (event = 2 ∧ 11 < inst) ∨ ((event = 3 ∨ event = 5) ∧ 15 < inst)
        ∨ (event = 7 ∧ 63 < inst) ∨ ((event = 1 ∨ event = 4 ∨ event = 6) ∧ inst ≠ 255)
      (unfit → exec (.eventAck tag event inst) s = .next (s.replied tag 0x3B .range [])) ∧
      (¬unfit → exec (.eventAck tag event inst) s = .next (({ s with events := { s.events with
        entries := s.events.entries.filter fun x => !(x.event.code == event && x.event.number == inst) } }
        : State).replied tag 0x3B .done []))) ∧
    (∀ es ms, es.length = 7 → ms.length = 4 → (∀ x ∈ es ++ ms, x ≤ 1) →
      ∃ t, exec (.eventEnable tag es ms) s = .next t ∧
        t = ({ s with events := { t.events with entries := s.events.entries } } : State).replied tag 0x3A .done [] ∧
        (∀ k, k < 7 → (t.events.enabled (k + 1) = true ↔ es[k]? = some 1)) ∧
        (∀ l, l < 4 → (t.events.masked l = true ↔ ms[l]? = some 1)))

/-- The receiver takes a byte by its state and restarts the gap timer at 10 ms while a frame is on its way; a length
outside 2–250, a wrong check or the expiry of the gap timer discards the frame, counted and raised as LINK ERROR
(R147 to R149). A frame whose check agrees waits in the receive queue where no reply place is free, and is an overrun
where four wait; otherwise it is dispatched: refused by its kind, its length or a TIMING above 1, or taken as the
request it asks for (R149 to R151). During a Device Reset every frame is discarded, and no fault is counted or raised
(R156 (1)). -/
def Obligations.ReceiverFollowsItsStates : Prop :=
  ∀ (t : Ticks) (b : Byte) (s : State), s.resetLine = false →
    let into := fun (r : Receiver) => ({ s with
      now := max s.now t, link := { s.link with receiver := r, gap := some (t + 10 * 135000) } } : State)
    let hunting := fun (at_ : Ticks) => ({ s with
      now := max s.now at_, link := { s.link with receiver := .hunting, gap := none } } : State)
    let counted := fun (u : State) => ({ u with
      link := { u.link with errors := min (u.link.errors + 1) 65535 }
      events := u.events.raised .linkError } : State)
    let discarded := fun (at_ : Ticks) => if s.link.resetting = true then hunting at_ else counted (hunting at_)
    (s.link.receiver = .hunting → b ≠ 0x7E → exec (.byteReceived t b) s = .next (s.reach t)) ∧
    (s.link.receiver = .hunting → b = 0x7E → exec (.byteReceived t b) s = .next (into .length)) ∧
    (s.link.receiver = .length → 2 ≤ b.toNat → b.toNat ≤ 250 →
      exec (.byteReceived t b) s = .next (into (.body b.toNat []))) ∧
    (s.link.receiver = .length → b.toNat < 2 ∨ 250 < b.toNat →
      exec (.byteReceived t b) s = .next (discarded t)) ∧
    (∀ n got, s.link.receiver = .body n got → got.length + 1 < n →
      exec (.byteReceived t b) s = .next (into (.body n (got ++ [b])))) ∧
    (∀ n got, s.link.receiver = .body n got → got.length + 1 = n →
      exec (.byteReceived t b) s = .next (into (.check n (got ++ [b]) none))) ∧
    (∀ n body, s.link.receiver = .check n body none →
      exec (.byteReceived t b) s = .next (into (.check n body (some b)))) ∧
    (∀ n body high, s.link.receiver = .check n body (some high) →
      (n % 256 + (body.map BitVec.toNat).sum) % 65536 ≠ 256 * high.toNat + b.toNat →
      exec (.byteReceived t b) s = .next (discarded t)) ∧
    (∀ n tag kind payload high, s.link.receiver = .check n (tag :: kind :: payload) (some high) →
      (n % 256 + ((tag :: kind :: payload).map BitVec.toNat).sum) % 65536 = 256 * high.toNat + b.toNat →
      (s.link.resetting = true → s.link.queue = [] → exec (.byteReceived t b) s = .next (hunting t)) ∧
      (s.link.resetting = false → 24 ≤ s.link.reserved + s.link.replies.length →
        (s.link.queue.length < 4 → exec (.byteReceived t b) s = .next { hunting t with
          link := { (hunting t).link with queue := s.link.queue ++ [⟨tag, kind, payload⟩] } }) ∧
        (s.link.queue.length = 4 → exec (.byteReceived t b) s = .next (counted (hunting t)))) ∧
      (s.Ready →
        (∀ status, askedOf ⟨tag, kind, payload⟩ = .refused status →
          exec (.byteReceived t b) s = .next ((hunting t).replied tag kind status [])) ∧
        (∀ c, askedOf ⟨tag, kind, payload⟩ = .command c → exec (.byteReceived t b) s = exec c (hunting t)))) ∧
    (∀ g, s.link.gap = some g → exec .gapTimerExpiry s = .next (discarded g))

/-- The transmitter, idle, takes the oldest queued reply, whose place becomes free: the frame at the head of the receive
queue is then dispatched, be it refused or a request, and those behind it wait on where it was the only place (R150);
with none queued it takes the report offered, the first entry of an unmasked level not yet reported, which leaves the
set or, held, is marked; a frame being sent is not cut off, and its end leaves the transmitter idle, during a Device
Reset too where it is not the DONE reply (R150, R152, R156 (4), R161). -/
def Obligations.TransmitterServesRepliesFirst : Prop :=
  ∀ s : State, s.resetLine = false →
    (∀ x, s.link.sending = some x → exec .transmitStart s = .next s) ∧
    (∀ r rest, s.link.sending = none → s.link.queue = [] → s.link.replies = r :: rest →
      exec .transmitStart s = .next { s with link := { s.link with replies := rest, sending := some (.reply r) } }) ∧
    (∀ r rest f status, s.link.sending = none → s.link.queue = [f] → s.link.replies = r :: rest →
      s.link.reserved + rest.length < 24 → askedOf f = .refused status →
      exec .transmitStart s = .next { s with link := { s.link with
        queue := [], replies := rest ++ [⟨f.tag, f.kind, status, []⟩], sending := some (.reply r) } }) ∧
    (∀ r rest f c, s.link.sending = none → s.link.queue = [f] → s.link.replies = r :: rest →
      s.link.reserved + rest.length < 24 → s.link.resetting = false → askedOf f = .command c →
      exec .transmitStart s = exec c { s with link := { s.link with
        queue := [], replies := rest, sending := some (.reply r) } }) ∧
    (∀ r rest f more, s.link.sending = none → s.link.queue = f :: more → s.link.replies = r :: rest →
      s.link.reserved + rest.length = 23 → s.link.resetting = false →
      (∀ status, askedOf f = .refused status → exec .transmitStart s = .next { s with link := { s.link with
        queue := more, replies := rest ++ [⟨f.tag, f.kind, status, []⟩], sending := some (.reply r) } }) ∧
      (∀ c, askedOf f = .command c → (∀ tag, c ≠ .deviceReset tag) →
        ∃ t, exec c { s with link := { s.link with
            queue := [], replies := rest, sending := some (.reply r) } } = .next t ∧
          exec .transmitStart s = .next { t with link := { t.link with queue := more } })) ∧
    (∀ before x after, PendingSetOrdered s → s.link.sending = none → s.link.replies = [] →
      s.events.entries = before ++ x :: after →
      (∀ y ∈ before, s.events.masked y.event.level = true ∨ y.reported = true) →
      s.events.masked x.event.level = false → x.reported = false →
      exec .transmitStart s = .next { s with
        link := { s.link with sending := some (.report x) }
        events := { s.events with
          entries := if x.event.held = true then before ++ { x with reported := true } :: after
            else before ++ after } }) ∧
    (s.link.sending = none → s.link.replies = [] →
      (∀ y ∈ s.events.entries, s.events.masked y.event.level = true ∨ y.reported = true) →
      exec .transmitStart s = .next s) ∧
    (∀ t x, s.link.sending = some x →
      s.link.resetting = false ∨ (∀ r, x = .reply r → r.kind = 0x3F → r.status ≠ .done) →
      exec (.transmitComplete t) s = .next { s with
        now := max s.now t, link := { s.link with sending := none } })
end

