-- ==== Sys2Proof/Laws/Bank.lean ====
section
/-! SUPPORT. What reading a bank gives after each way of writing it. -/

namespace Sys2Proof

variable {α : Type} {n : Nat}

/-- A place the bank lacks reads as the default. -/
theorem look_outside (v : Vector α n) (d : α) {i : Nat} (h : n ≤ i) : look v i d = d := by
  simp [look, Vector.getElem?_eq_none h]

/-- A place the bank has reads as its entry, whatever the default. -/
theorem look_inside (v : Vector α n) (d : α) {i : Nat} (h : i < n) : look v i d = v[i] := by
  simp [look, h]

/-- The place just written reads as what was written. -/
theorem look_put_same (v : Vector α n) (x d : α) {i : Nat} (h : i < n) : look (put v i x) i d = x := by
  simp [look, put, h]

/-- A write leaves every other place alone. -/
theorem look_put_ne (v : Vector α n) (x d : α) {i j : Nat} (h : j ≠ i) : look (put v i x) j d = look v j d := by
  simp [look, put, Vector.getElem?_setIfInBounds_ne (Ne.symm h)]

/-- A place the bank lacks is not written. -/
theorem put_outside (v : Vector α n) (x : α) {i : Nat} (h : n ≤ i) : put v i x = v := by
  ext j hj
  simp [put, show i ≠ j by omega]

/-- Writing what a place holds changes nothing. -/
theorem put_look (v : Vector α n) (d : α) (i : Nat) : put v i (look v i d) = v := by
  by_cases h : i < n
  · ext j hj
    by_cases e : i = j
    · subst e; simp [put, look, h]
    · simp [put, e]
  · exact put_outside v _ (by omega)

/-- The later of two writes to one place stands. -/
theorem put_put (v : Vector α n) (x y : α) (i : Nat) : put (put v i x) i y = put v i y := by
  ext j hj
  by_cases e : i = j <;> simp [put, e]

/-- Writes to different places may be made in either order. -/
theorem put_comm (v : Vector α n) (x y : α) {i j : Nat} (h : i ≠ j) : put (put v i x) j y = put (put v j y) i x := by
  ext k hk
  by_cases e : i = k <;> by_cases f : j = k <;> simp [put, e, f]
  omega

/-- `alter` acts at the places named and at no other. -/
theorem look_alter (v : Vector α n) (ns : List Nat) (f : α → α) (d : α) {i : Nat} (h : i < n) :
    look (alter v ns f) i d = if ns.contains i then f (look v i d) else look v i d := by
  simp [look, alter, h]

/-- A map acts at every place. -/
theorem look_map (v : Vector α n) (f : α → α) (d : α) {i : Nat} (h : i < n) :
    look (v.map f) i d = f (look v i d) := by
  simp [look, h]

/-- An indexed map acts at every place with its number. -/
theorem look_mapIdx (v : Vector α n) (f : Nat → α → α) (d : α) {i : Nat} (h : i < n) :
    look (v.mapIdx f) i d = f i (look v i d) := by
  simp [look, h]

/-- A bank of one value reads as that value. -/
theorem look_replicate (x d : α) {i : Nat} (h : i < n) : look (Vector.replicate n x) i d = x := by
  simp [look, h]

/-- Two banks that read alike are equal. -/
theorem look_ext (v u : Vector α n) (d : α) (h : ∀ i, i < n → look v i d = look u i d) : v = u := by
  ext i hi
  have e := h i hi
  rwa [look_inside v d hi, look_inside u d hi] at e

end Sys2Proof
end

