-- ==== Sys2Proof/Laws/Picture.lean ====
section
/-! SUPPORT. The pixel memory of a slot: what is read after a write, and that every operation on it keeps the one
canonical form, so that equal pictures are equal lists. -/

namespace Sys2Proof.Machine

/-- The head of a list in canonical form, and its tail. -/
theorem pictureFrom_cons {low a : Nat} {c : Colour} {rest : Picture} :
    pictureFrom low ((a, c) :: rest) = true ↔
      low ≤ a ∧ a < 1920 * 1080 ∧ c ≠ black ∧ pictureFrom (a + 1) rest = true := by
  simp [pictureFrom, Bool.and_eq_true, and_assoc]

/-- A lower bound may be lowered. -/
theorem pictureFrom_mono {low low' : Nat} (h : low' ≤ low) {p : Picture} (hp : pictureFrom low p = true) :
    pictureFrom low' p = true := by
  cases p with
  | nil => rfl
  | cons x rest =>
    obtain ⟨a, c⟩ := x
    rw [pictureFrom_cons] at hp ⊢
    exact ⟨by omega, hp.2⟩

/-- An address below every listed one is black. -/
theorem pixelAt_below {p : Picture} : ∀ {low x : Nat}, pictureFrom low p = true → x < low → pixelAt p x = black := by
  induction p with
  | nil => intros; rfl
  | cons y rest ih =>
    obtain ⟨a, c⟩ := y
    intro low x hp hx
    rw [pictureFrom_cons] at hp
    simp only [pixelAt, show a ≠ x by omega, if_false]
    exact ih hp.2.2.2 (by omega)

/-- A write inside the raster keeps the canonical form. -/
theorem writePixel_from {p : Picture} {c : Colour} {x : Nat} (hx : x < 1920 * 1080) :
    ∀ {low : Nat}, pictureFrom low p = true → low ≤ x → pictureFrom low (writePixel p x c) = true := by
  induction p with
  | nil =>
    intro low _ hl
    simp only [writePixel]
    split
    · rfl
    · exact pictureFrom_cons.2 ⟨hl, hx, ‹_›, rfl⟩
  | cons y rest ih =>
    obtain ⟨a, b⟩ := y
    intro low hp hl
    have h := pictureFrom_cons.1 hp
    simp only [writePixel]
    split
    · split
      · exact hp
      · exact pictureFrom_cons.2 ⟨hl, hx, ‹_›, pictureFrom_cons.2 ⟨by omega, h.2⟩⟩
    · split
      · split
        · exact pictureFrom_mono (by omega) h.2.2.2
        · exact pictureFrom_cons.2 ⟨hl, hx, ‹_›, pictureFrom_mono (by omega) h.2.2.2⟩
      · exact pictureFrom_cons.2 ⟨h.1, h.2.1, h.2.2.1, ih h.2.2.2 (by omega)⟩

/-- A write inside the raster keeps the canonical form. -/
theorem writePixel_canonical {p : Picture} {c : Colour} {x : Nat} (hx : x < 1920 * 1080)
    (hp : p.canonical = true) : (writePixel p x c).canonical = true :=
  writePixel_from hx hp (Nat.zero_le x)

/-- The pixel just written reads as what was written. -/
theorem pixelAt_writePixel_same {p : Picture} (x : Nat) (c : Colour) :
    ∀ {low : Nat}, pictureFrom low p = true → pixelAt (writePixel p x c) x = c := by
  induction p with
  | nil => intro low _; simp only [writePixel]; split <;> simp_all [pixelAt]
  | cons y rest ih =>
    obtain ⟨a, b⟩ := y
    intro low hp
    have h := pictureFrom_cons.1 hp
    simp only [writePixel]
    split
    · split
      · subst c
        simp only [pixelAt, show a ≠ x by omega, if_false]
        exact pixelAt_below h.2.2.2 (by omega)
      · simp [pixelAt]
    · split
      · split
        · subst c; exact pixelAt_below h.2.2.2 (by omega)
        · simp [pixelAt]
      · simp only [pixelAt, show a ≠ x by omega, if_false]
        exact ih h.2.2.2

/-- A write leaves every other pixel alone. -/
theorem pixelAt_writePixel_ne {p : Picture} {x z : Nat} (c : Colour) (h : z ≠ x) :
    pixelAt (writePixel p x c) z = pixelAt p z := by
  induction p with
  | nil => simp only [writePixel]; split <;> simp [pixelAt, Ne.symm h]
  | cons y rest ih =>
    obtain ⟨a, b⟩ := y
    simp only [writePixel]
    split
    · split <;> simp [pixelAt, Ne.symm h]
    · split
      · subst x
        split <;> simp [pixelAt, Ne.symm h]
      · simp only [pixelAt, ih]

/-- Pixels written one after another inside the raster keep the canonical form. -/
theorem writePixels_canonical (l : Picture) (hl : ∀ x ∈ l, x.1 < 1920 * 1080) :
    ∀ {p : Picture}, p.canonical = true → (l.foldl (fun p x => writePixel p x.1 x.2) p).canonical = true := by
  induction l with
  | nil => intro p hp; exact hp
  | cons y rest ih =>
    intro p hp
    exact ih (fun x hx => hl x (List.mem_cons_of_mem _ hx))
      (writePixel_canonical (hl y (List.mem_cons_self ..)) hp)

/-- A frame of a format that fits the raster leaves a picture in canonical form, whatever its link delivered. -/
theorem writeFrame_canonical {w h : Nat} (hh : h ≤ 1080) (delivered : Picture) :
    (writeFrame w h delivered).canonical = true := by
  apply writePixels_canonical
  · intro x hx
    have hx := (List.mem_filter.1 hx).2
    simp only [Bool.and_eq_true, decide_eq_true_eq] at hx
    omega
  · rfl

/-- The slots after reset hold pictures in canonical form. -/
theorem reset_pictures_canonical (n : Nat) : (State.reset.slot n).picture.canonical = true := by
  by_cases h : n < 96 <;> simp [State.slot, State.reset, look, h, Slot.reset, Picture.canonical, pictureFrom]

end Sys2Proof.Machine
end

