-- ==== Sys2Proof/Laws/State.lean ====
section
/-! SUPPORT. One lemma for each field under each update of the state: what an update writes, and that it writes
nothing else. -/

namespace Sys2Proof.Machine

variable (s : State)

/-! ### setInput -/

@[simp] theorem State.setInput_now (i : Nat) (x : Input) : (s.setInput i x).now = s.now := rfl
@[simp] theorem State.setInput_inputs (i : Nat) (x : Input) : (s.setInput i x).inputs = put s.inputs i x := rfl
@[simp] theorem State.setInput_slots (i : Nat) (x : Input) : (s.setInput i x).slots = s.slots := rfl
@[simp] theorem State.setInput_rings (i : Nat) (x : Input) : (s.setInput i x).rings = s.rings := rfl
@[simp] theorem State.setInput_stills (i : Nat) (x : Input) : (s.setInput i x).stills = s.stills := rfl
@[simp] theorem State.setInput_reservations (i : Nat) (x : Input) : (s.setInput i x).reservations = s.reservations := rfl
@[simp] theorem State.setInput_pins (i : Nat) (x : Input) : (s.setInput i x).pins = s.pins := rfl
@[simp] theorem State.setInput_time (i : Nat) (x : Input) : (s.setInput i x).time = s.time := rfl
@[simp] theorem State.setInput_scenes (i : Nat) (x : Input) : (s.setInput i x).scenes = s.scenes := rfl
@[simp] theorem State.setInput_windows (i : Nat) (x : Input) : (s.setInput i x).windows = s.windows := rfl
@[simp] theorem State.setInput_comp (i : Nat) (x : Input) : (s.setInput i x).comp = s.comp := rfl
@[simp] theorem State.setInput_ports (i : Nat) (x : Input) : (s.setInput i x).ports = s.ports := rfl
@[simp] theorem State.setInput_nextLine (i : Nat) (x : Input) : (s.setInput i x).nextLine = s.nextLine := rfl
@[simp] theorem State.setInput_link (i : Nat) (x : Input) : (s.setInput i x).link = s.link := rfl
@[simp] theorem State.setInput_events (i : Nat) (x : Input) : (s.setInput i x).events = s.events := rfl
@[simp] theorem State.setInput_overrideA (i : Nat) (x : Input) : (s.setInput i x).overrideA = s.overrideA := rfl
@[simp] theorem State.setInput_overrideB (i : Nat) (x : Input) : (s.setInput i x).overrideB = s.overrideB := rfl
@[simp] theorem State.setInput_resetLine (i : Nat) (x : Input) : (s.setInput i x).resetLine = s.resetLine := rfl
@[simp] theorem State.setInput_pending (i : Nat) (x : Input) : (s.setInput i x).pending = s.pending := rfl
@[simp] theorem State.setInput_slot (i : Nat) (x : Input) (j : Nat) : (s.setInput i x).slot j = s.slot j := rfl
@[simp] theorem State.setInput_ring (i : Nat) (x : Input) (j : Nat) : (s.setInput i x).ring j = s.ring j := rfl
@[simp] theorem State.setInput_still (i : Nat) (x : Input) (j : Nat) : (s.setInput i x).still j = s.still j := rfl
@[simp] theorem State.setInput_reservation (i : Nat) (x : Input) (j : Nat) : (s.setInput i x).reservation j = s.reservation j := rfl
@[simp] theorem State.setInput_pin (i : Nat) (x : Input) (j : Nat) : (s.setInput i x).pin j = s.pin j := rfl
@[simp] theorem State.setInput_scene (i : Nat) (x : Input) (j : Nat) : (s.setInput i x).scene j = s.scene j := rfl
@[simp] theorem State.setInput_window (i : Nat) (x : Input) (j : Nat) : (s.setInput i x).window j = s.window j := rfl
@[simp] theorem State.setInput_port (i : Nat) (x : Input) (j : Nat) : (s.setInput i x).port j = s.port j := rfl
@[simp] theorem State.setInput_input_same (i : Nat) (x : Input) (h : i < 16) : (s.setInput i x).input i = x :=
  look_put_same s.inputs x _ h
theorem State.setInput_input_ne (i j : Nat) (x : Input) (h : j ≠ i) : (s.setInput i x).input j = s.input j :=
  look_put_ne s.inputs x _ h

/-! ### setSlot -/

@[simp] theorem State.setSlot_now (n : Nat) (x : Slot) : (s.setSlot n x).now = s.now := rfl
@[simp] theorem State.setSlot_inputs (n : Nat) (x : Slot) : (s.setSlot n x).inputs = s.inputs := rfl
@[simp] theorem State.setSlot_slots (n : Nat) (x : Slot) : (s.setSlot n x).slots = put s.slots n x := rfl
@[simp] theorem State.setSlot_rings (n : Nat) (x : Slot) : (s.setSlot n x).rings = s.rings := rfl
@[simp] theorem State.setSlot_stills (n : Nat) (x : Slot) : (s.setSlot n x).stills = s.stills := rfl
@[simp] theorem State.setSlot_reservations (n : Nat) (x : Slot) : (s.setSlot n x).reservations = s.reservations := rfl
@[simp] theorem State.setSlot_pins (n : Nat) (x : Slot) : (s.setSlot n x).pins = s.pins := rfl
@[simp] theorem State.setSlot_time (n : Nat) (x : Slot) : (s.setSlot n x).time = s.time := rfl
@[simp] theorem State.setSlot_scenes (n : Nat) (x : Slot) : (s.setSlot n x).scenes = s.scenes := rfl
@[simp] theorem State.setSlot_windows (n : Nat) (x : Slot) : (s.setSlot n x).windows = s.windows := rfl
@[simp] theorem State.setSlot_comp (n : Nat) (x : Slot) : (s.setSlot n x).comp = s.comp := rfl
@[simp] theorem State.setSlot_ports (n : Nat) (x : Slot) : (s.setSlot n x).ports = s.ports := rfl
@[simp] theorem State.setSlot_nextLine (n : Nat) (x : Slot) : (s.setSlot n x).nextLine = s.nextLine := rfl
@[simp] theorem State.setSlot_link (n : Nat) (x : Slot) : (s.setSlot n x).link = s.link := rfl
@[simp] theorem State.setSlot_events (n : Nat) (x : Slot) : (s.setSlot n x).events = s.events := rfl
@[simp] theorem State.setSlot_overrideA (n : Nat) (x : Slot) : (s.setSlot n x).overrideA = s.overrideA := rfl
@[simp] theorem State.setSlot_overrideB (n : Nat) (x : Slot) : (s.setSlot n x).overrideB = s.overrideB := rfl
@[simp] theorem State.setSlot_resetLine (n : Nat) (x : Slot) : (s.setSlot n x).resetLine = s.resetLine := rfl
@[simp] theorem State.setSlot_pending (n : Nat) (x : Slot) : (s.setSlot n x).pending = s.pending := rfl
@[simp] theorem State.setSlot_input (n : Nat) (x : Slot) (j : Nat) : (s.setSlot n x).input j = s.input j := rfl
@[simp] theorem State.setSlot_ring (n : Nat) (x : Slot) (j : Nat) : (s.setSlot n x).ring j = s.ring j := rfl
@[simp] theorem State.setSlot_still (n : Nat) (x : Slot) (j : Nat) : (s.setSlot n x).still j = s.still j := rfl
@[simp] theorem State.setSlot_reservation (n : Nat) (x : Slot) (j : Nat) : (s.setSlot n x).reservation j = s.reservation j := rfl
@[simp] theorem State.setSlot_pin (n : Nat) (x : Slot) (j : Nat) : (s.setSlot n x).pin j = s.pin j := rfl
@[simp] theorem State.setSlot_scene (n : Nat) (x : Slot) (j : Nat) : (s.setSlot n x).scene j = s.scene j := rfl
@[simp] theorem State.setSlot_window (n : Nat) (x : Slot) (j : Nat) : (s.setSlot n x).window j = s.window j := rfl
@[simp] theorem State.setSlot_port (n : Nat) (x : Slot) (j : Nat) : (s.setSlot n x).port j = s.port j := rfl
@[simp] theorem State.setSlot_slot_same (n : Nat) (x : Slot) (h : n < 96) : (s.setSlot n x).slot n = x :=
  look_put_same s.slots x _ h
theorem State.setSlot_slot_ne (n j : Nat) (x : Slot) (h : j ≠ n) : (s.setSlot n x).slot j = s.slot j :=
  look_put_ne s.slots x _ h

/-! ### setRing -/

@[simp] theorem State.setRing_now (i : Nat) (x : Ring) : (s.setRing i x).now = s.now := rfl
@[simp] theorem State.setRing_inputs (i : Nat) (x : Ring) : (s.setRing i x).inputs = s.inputs := rfl
@[simp] theorem State.setRing_slots (i : Nat) (x : Ring) : (s.setRing i x).slots = s.slots := rfl
@[simp] theorem State.setRing_rings (i : Nat) (x : Ring) : (s.setRing i x).rings = put s.rings i x := rfl
@[simp] theorem State.setRing_stills (i : Nat) (x : Ring) : (s.setRing i x).stills = s.stills := rfl
@[simp] theorem State.setRing_reservations (i : Nat) (x : Ring) : (s.setRing i x).reservations = s.reservations := rfl
@[simp] theorem State.setRing_pins (i : Nat) (x : Ring) : (s.setRing i x).pins = s.pins := rfl
@[simp] theorem State.setRing_time (i : Nat) (x : Ring) : (s.setRing i x).time = s.time := rfl
@[simp] theorem State.setRing_scenes (i : Nat) (x : Ring) : (s.setRing i x).scenes = s.scenes := rfl
@[simp] theorem State.setRing_windows (i : Nat) (x : Ring) : (s.setRing i x).windows = s.windows := rfl
@[simp] theorem State.setRing_comp (i : Nat) (x : Ring) : (s.setRing i x).comp = s.comp := rfl
@[simp] theorem State.setRing_ports (i : Nat) (x : Ring) : (s.setRing i x).ports = s.ports := rfl
@[simp] theorem State.setRing_nextLine (i : Nat) (x : Ring) : (s.setRing i x).nextLine = s.nextLine := rfl
@[simp] theorem State.setRing_link (i : Nat) (x : Ring) : (s.setRing i x).link = s.link := rfl
@[simp] theorem State.setRing_events (i : Nat) (x : Ring) : (s.setRing i x).events = s.events := rfl
@[simp] theorem State.setRing_overrideA (i : Nat) (x : Ring) : (s.setRing i x).overrideA = s.overrideA := rfl
@[simp] theorem State.setRing_overrideB (i : Nat) (x : Ring) : (s.setRing i x).overrideB = s.overrideB := rfl
@[simp] theorem State.setRing_resetLine (i : Nat) (x : Ring) : (s.setRing i x).resetLine = s.resetLine := rfl
@[simp] theorem State.setRing_pending (i : Nat) (x : Ring) : (s.setRing i x).pending = s.pending := rfl
@[simp] theorem State.setRing_input (i : Nat) (x : Ring) (j : Nat) : (s.setRing i x).input j = s.input j := rfl
@[simp] theorem State.setRing_slot (i : Nat) (x : Ring) (j : Nat) : (s.setRing i x).slot j = s.slot j := rfl
@[simp] theorem State.setRing_still (i : Nat) (x : Ring) (j : Nat) : (s.setRing i x).still j = s.still j := rfl
@[simp] theorem State.setRing_reservation (i : Nat) (x : Ring) (j : Nat) : (s.setRing i x).reservation j = s.reservation j := rfl
@[simp] theorem State.setRing_pin (i : Nat) (x : Ring) (j : Nat) : (s.setRing i x).pin j = s.pin j := rfl
@[simp] theorem State.setRing_scene (i : Nat) (x : Ring) (j : Nat) : (s.setRing i x).scene j = s.scene j := rfl
@[simp] theorem State.setRing_window (i : Nat) (x : Ring) (j : Nat) : (s.setRing i x).window j = s.window j := rfl
@[simp] theorem State.setRing_port (i : Nat) (x : Ring) (j : Nat) : (s.setRing i x).port j = s.port j := rfl
@[simp] theorem State.setRing_ring_same (i : Nat) (x : Ring) (h : i < 16) : (s.setRing i x).ring i = x :=
  look_put_same s.rings x _ h
theorem State.setRing_ring_ne (i j : Nat) (x : Ring) (h : j ≠ i) : (s.setRing i x).ring j = s.ring j :=
  look_put_ne s.rings x _ h

/-! ### setStill -/

@[simp] theorem State.setStill_now (e : Nat) (x : Option Nat) : (s.setStill e x).now = s.now := rfl
@[simp] theorem State.setStill_inputs (e : Nat) (x : Option Nat) : (s.setStill e x).inputs = s.inputs := rfl
@[simp] theorem State.setStill_slots (e : Nat) (x : Option Nat) : (s.setStill e x).slots = s.slots := rfl
@[simp] theorem State.setStill_rings (e : Nat) (x : Option Nat) : (s.setStill e x).rings = s.rings := rfl
@[simp] theorem State.setStill_stills (e : Nat) (x : Option Nat) : (s.setStill e x).stills = put s.stills e x := rfl
@[simp] theorem State.setStill_reservations (e : Nat) (x : Option Nat) : (s.setStill e x).reservations = s.reservations := rfl
@[simp] theorem State.setStill_pins (e : Nat) (x : Option Nat) : (s.setStill e x).pins = s.pins := rfl
@[simp] theorem State.setStill_time (e : Nat) (x : Option Nat) : (s.setStill e x).time = s.time := rfl
@[simp] theorem State.setStill_scenes (e : Nat) (x : Option Nat) : (s.setStill e x).scenes = s.scenes := rfl
@[simp] theorem State.setStill_windows (e : Nat) (x : Option Nat) : (s.setStill e x).windows = s.windows := rfl
@[simp] theorem State.setStill_comp (e : Nat) (x : Option Nat) : (s.setStill e x).comp = s.comp := rfl
@[simp] theorem State.setStill_ports (e : Nat) (x : Option Nat) : (s.setStill e x).ports = s.ports := rfl
@[simp] theorem State.setStill_nextLine (e : Nat) (x : Option Nat) : (s.setStill e x).nextLine = s.nextLine := rfl
@[simp] theorem State.setStill_link (e : Nat) (x : Option Nat) : (s.setStill e x).link = s.link := rfl
@[simp] theorem State.setStill_events (e : Nat) (x : Option Nat) : (s.setStill e x).events = s.events := rfl
@[simp] theorem State.setStill_overrideA (e : Nat) (x : Option Nat) : (s.setStill e x).overrideA = s.overrideA := rfl
@[simp] theorem State.setStill_overrideB (e : Nat) (x : Option Nat) : (s.setStill e x).overrideB = s.overrideB := rfl
@[simp] theorem State.setStill_resetLine (e : Nat) (x : Option Nat) : (s.setStill e x).resetLine = s.resetLine := rfl
@[simp] theorem State.setStill_pending (e : Nat) (x : Option Nat) : (s.setStill e x).pending = s.pending := rfl
@[simp] theorem State.setStill_input (e : Nat) (x : Option Nat) (j : Nat) : (s.setStill e x).input j = s.input j := rfl
@[simp] theorem State.setStill_slot (e : Nat) (x : Option Nat) (j : Nat) : (s.setStill e x).slot j = s.slot j := rfl
@[simp] theorem State.setStill_ring (e : Nat) (x : Option Nat) (j : Nat) : (s.setStill e x).ring j = s.ring j := rfl
@[simp] theorem State.setStill_reservation (e : Nat) (x : Option Nat) (j : Nat) : (s.setStill e x).reservation j = s.reservation j := rfl
@[simp] theorem State.setStill_pin (e : Nat) (x : Option Nat) (j : Nat) : (s.setStill e x).pin j = s.pin j := rfl
@[simp] theorem State.setStill_scene (e : Nat) (x : Option Nat) (j : Nat) : (s.setStill e x).scene j = s.scene j := rfl
@[simp] theorem State.setStill_window (e : Nat) (x : Option Nat) (j : Nat) : (s.setStill e x).window j = s.window j := rfl
@[simp] theorem State.setStill_port (e : Nat) (x : Option Nat) (j : Nat) : (s.setStill e x).port j = s.port j := rfl
@[simp] theorem State.setStill_still_same (e : Nat) (x : Option Nat) (h : e < 16) : (s.setStill e x).still e = x :=
  look_put_same s.stills x _ h
theorem State.setStill_still_ne (e j : Nat) (x : Option Nat) (h : j ≠ e) : (s.setStill e x).still j = s.still j :=
  look_put_ne s.stills x _ h

/-! ### setReservation -/

@[simp] theorem State.setReservation_now (i : Nat) (x : Option Nat) : (s.setReservation i x).now = s.now := rfl
@[simp] theorem State.setReservation_inputs (i : Nat) (x : Option Nat) : (s.setReservation i x).inputs = s.inputs := rfl
@[simp] theorem State.setReservation_slots (i : Nat) (x : Option Nat) : (s.setReservation i x).slots = s.slots := rfl
@[simp] theorem State.setReservation_rings (i : Nat) (x : Option Nat) : (s.setReservation i x).rings = s.rings := rfl
@[simp] theorem State.setReservation_stills (i : Nat) (x : Option Nat) : (s.setReservation i x).stills = s.stills := rfl
@[simp] theorem State.setReservation_reservations (i : Nat) (x : Option Nat) : (s.setReservation i x).reservations = put s.reservations i x := rfl
@[simp] theorem State.setReservation_pins (i : Nat) (x : Option Nat) : (s.setReservation i x).pins = s.pins := rfl
@[simp] theorem State.setReservation_time (i : Nat) (x : Option Nat) : (s.setReservation i x).time = s.time := rfl
@[simp] theorem State.setReservation_scenes (i : Nat) (x : Option Nat) : (s.setReservation i x).scenes = s.scenes := rfl
@[simp] theorem State.setReservation_windows (i : Nat) (x : Option Nat) : (s.setReservation i x).windows = s.windows := rfl
@[simp] theorem State.setReservation_comp (i : Nat) (x : Option Nat) : (s.setReservation i x).comp = s.comp := rfl
@[simp] theorem State.setReservation_ports (i : Nat) (x : Option Nat) : (s.setReservation i x).ports = s.ports := rfl
@[simp] theorem State.setReservation_nextLine (i : Nat) (x : Option Nat) : (s.setReservation i x).nextLine = s.nextLine := rfl
@[simp] theorem State.setReservation_link (i : Nat) (x : Option Nat) : (s.setReservation i x).link = s.link := rfl
@[simp] theorem State.setReservation_events (i : Nat) (x : Option Nat) : (s.setReservation i x).events = s.events := rfl
@[simp] theorem State.setReservation_overrideA (i : Nat) (x : Option Nat) : (s.setReservation i x).overrideA = s.overrideA := rfl
@[simp] theorem State.setReservation_overrideB (i : Nat) (x : Option Nat) : (s.setReservation i x).overrideB = s.overrideB := rfl
@[simp] theorem State.setReservation_resetLine (i : Nat) (x : Option Nat) : (s.setReservation i x).resetLine = s.resetLine := rfl
@[simp] theorem State.setReservation_pending (i : Nat) (x : Option Nat) : (s.setReservation i x).pending = s.pending := rfl
@[simp] theorem State.setReservation_input (i : Nat) (x : Option Nat) (j : Nat) : (s.setReservation i x).input j = s.input j := rfl
@[simp] theorem State.setReservation_slot (i : Nat) (x : Option Nat) (j : Nat) : (s.setReservation i x).slot j = s.slot j := rfl
@[simp] theorem State.setReservation_ring (i : Nat) (x : Option Nat) (j : Nat) : (s.setReservation i x).ring j = s.ring j := rfl
@[simp] theorem State.setReservation_still (i : Nat) (x : Option Nat) (j : Nat) : (s.setReservation i x).still j = s.still j := rfl
@[simp] theorem State.setReservation_pin (i : Nat) (x : Option Nat) (j : Nat) : (s.setReservation i x).pin j = s.pin j := rfl
@[simp] theorem State.setReservation_scene (i : Nat) (x : Option Nat) (j : Nat) : (s.setReservation i x).scene j = s.scene j := rfl
@[simp] theorem State.setReservation_window (i : Nat) (x : Option Nat) (j : Nat) : (s.setReservation i x).window j = s.window j := rfl
@[simp] theorem State.setReservation_port (i : Nat) (x : Option Nat) (j : Nat) : (s.setReservation i x).port j = s.port j := rfl
@[simp] theorem State.setReservation_reservation_same (i : Nat) (x : Option Nat) (h : i < 16) : (s.setReservation i x).reservation i = x :=
  look_put_same s.reservations x _ h
theorem State.setReservation_reservation_ne (i j : Nat) (x : Option Nat) (h : j ≠ i) : (s.setReservation i x).reservation j = s.reservation j :=
  look_put_ne s.reservations x _ h

/-! ### setPin -/

@[simp] theorem State.setPin_now (w : Nat) (x : Option Nat) : (s.setPin w x).now = s.now := rfl
@[simp] theorem State.setPin_inputs (w : Nat) (x : Option Nat) : (s.setPin w x).inputs = s.inputs := rfl
@[simp] theorem State.setPin_slots (w : Nat) (x : Option Nat) : (s.setPin w x).slots = s.slots := rfl
@[simp] theorem State.setPin_rings (w : Nat) (x : Option Nat) : (s.setPin w x).rings = s.rings := rfl
@[simp] theorem State.setPin_stills (w : Nat) (x : Option Nat) : (s.setPin w x).stills = s.stills := rfl
@[simp] theorem State.setPin_reservations (w : Nat) (x : Option Nat) : (s.setPin w x).reservations = s.reservations := rfl
@[simp] theorem State.setPin_pins (w : Nat) (x : Option Nat) : (s.setPin w x).pins = put s.pins w x := rfl
@[simp] theorem State.setPin_time (w : Nat) (x : Option Nat) : (s.setPin w x).time = s.time := rfl
@[simp] theorem State.setPin_scenes (w : Nat) (x : Option Nat) : (s.setPin w x).scenes = s.scenes := rfl
@[simp] theorem State.setPin_windows (w : Nat) (x : Option Nat) : (s.setPin w x).windows = s.windows := rfl
@[simp] theorem State.setPin_comp (w : Nat) (x : Option Nat) : (s.setPin w x).comp = s.comp := rfl
@[simp] theorem State.setPin_ports (w : Nat) (x : Option Nat) : (s.setPin w x).ports = s.ports := rfl
@[simp] theorem State.setPin_nextLine (w : Nat) (x : Option Nat) : (s.setPin w x).nextLine = s.nextLine := rfl
@[simp] theorem State.setPin_link (w : Nat) (x : Option Nat) : (s.setPin w x).link = s.link := rfl
@[simp] theorem State.setPin_events (w : Nat) (x : Option Nat) : (s.setPin w x).events = s.events := rfl
@[simp] theorem State.setPin_overrideA (w : Nat) (x : Option Nat) : (s.setPin w x).overrideA = s.overrideA := rfl
@[simp] theorem State.setPin_overrideB (w : Nat) (x : Option Nat) : (s.setPin w x).overrideB = s.overrideB := rfl
@[simp] theorem State.setPin_resetLine (w : Nat) (x : Option Nat) : (s.setPin w x).resetLine = s.resetLine := rfl
@[simp] theorem State.setPin_pending (w : Nat) (x : Option Nat) : (s.setPin w x).pending = s.pending := rfl
@[simp] theorem State.setPin_input (w : Nat) (x : Option Nat) (j : Nat) : (s.setPin w x).input j = s.input j := rfl
@[simp] theorem State.setPin_slot (w : Nat) (x : Option Nat) (j : Nat) : (s.setPin w x).slot j = s.slot j := rfl
@[simp] theorem State.setPin_ring (w : Nat) (x : Option Nat) (j : Nat) : (s.setPin w x).ring j = s.ring j := rfl
@[simp] theorem State.setPin_still (w : Nat) (x : Option Nat) (j : Nat) : (s.setPin w x).still j = s.still j := rfl
@[simp] theorem State.setPin_reservation (w : Nat) (x : Option Nat) (j : Nat) : (s.setPin w x).reservation j = s.reservation j := rfl
@[simp] theorem State.setPin_scene (w : Nat) (x : Option Nat) (j : Nat) : (s.setPin w x).scene j = s.scene j := rfl
@[simp] theorem State.setPin_window (w : Nat) (x : Option Nat) (j : Nat) : (s.setPin w x).window j = s.window j := rfl
@[simp] theorem State.setPin_port (w : Nat) (x : Option Nat) (j : Nat) : (s.setPin w x).port j = s.port j := rfl
@[simp] theorem State.setPin_pin_same (w : Nat) (x : Option Nat) (h : w < 64) : (s.setPin w x).pin w = x :=
  look_put_same s.pins x _ h
theorem State.setPin_pin_ne (w j : Nat) (x : Option Nat) (h : j ≠ w) : (s.setPin w x).pin j = s.pin j :=
  look_put_ne s.pins x _ h

/-! ### setScene -/

@[simp] theorem State.setScene_now (k : Nat) (x : Scene) : (s.setScene k x).now = s.now := rfl
@[simp] theorem State.setScene_inputs (k : Nat) (x : Scene) : (s.setScene k x).inputs = s.inputs := rfl
@[simp] theorem State.setScene_slots (k : Nat) (x : Scene) : (s.setScene k x).slots = s.slots := rfl
@[simp] theorem State.setScene_rings (k : Nat) (x : Scene) : (s.setScene k x).rings = s.rings := rfl
@[simp] theorem State.setScene_stills (k : Nat) (x : Scene) : (s.setScene k x).stills = s.stills := rfl
@[simp] theorem State.setScene_reservations (k : Nat) (x : Scene) : (s.setScene k x).reservations = s.reservations := rfl
@[simp] theorem State.setScene_pins (k : Nat) (x : Scene) : (s.setScene k x).pins = s.pins := rfl
@[simp] theorem State.setScene_time (k : Nat) (x : Scene) : (s.setScene k x).time = s.time := rfl
@[simp] theorem State.setScene_scenes (k : Nat) (x : Scene) : (s.setScene k x).scenes = put s.scenes k x := rfl
@[simp] theorem State.setScene_windows (k : Nat) (x : Scene) : (s.setScene k x).windows = s.windows := rfl
@[simp] theorem State.setScene_comp (k : Nat) (x : Scene) : (s.setScene k x).comp = s.comp := rfl
@[simp] theorem State.setScene_ports (k : Nat) (x : Scene) : (s.setScene k x).ports = s.ports := rfl
@[simp] theorem State.setScene_nextLine (k : Nat) (x : Scene) : (s.setScene k x).nextLine = s.nextLine := rfl
@[simp] theorem State.setScene_link (k : Nat) (x : Scene) : (s.setScene k x).link = s.link := rfl
@[simp] theorem State.setScene_events (k : Nat) (x : Scene) : (s.setScene k x).events = s.events := rfl
@[simp] theorem State.setScene_overrideA (k : Nat) (x : Scene) : (s.setScene k x).overrideA = s.overrideA := rfl
@[simp] theorem State.setScene_overrideB (k : Nat) (x : Scene) : (s.setScene k x).overrideB = s.overrideB := rfl
@[simp] theorem State.setScene_resetLine (k : Nat) (x : Scene) : (s.setScene k x).resetLine = s.resetLine := rfl
@[simp] theorem State.setScene_pending (k : Nat) (x : Scene) : (s.setScene k x).pending = s.pending := rfl
@[simp] theorem State.setScene_input (k : Nat) (x : Scene) (j : Nat) : (s.setScene k x).input j = s.input j := rfl
@[simp] theorem State.setScene_slot (k : Nat) (x : Scene) (j : Nat) : (s.setScene k x).slot j = s.slot j := rfl
@[simp] theorem State.setScene_ring (k : Nat) (x : Scene) (j : Nat) : (s.setScene k x).ring j = s.ring j := rfl
@[simp] theorem State.setScene_still (k : Nat) (x : Scene) (j : Nat) : (s.setScene k x).still j = s.still j := rfl
@[simp] theorem State.setScene_reservation (k : Nat) (x : Scene) (j : Nat) : (s.setScene k x).reservation j = s.reservation j := rfl
@[simp] theorem State.setScene_pin (k : Nat) (x : Scene) (j : Nat) : (s.setScene k x).pin j = s.pin j := rfl
@[simp] theorem State.setScene_window (k : Nat) (x : Scene) (j : Nat) : (s.setScene k x).window j = s.window j := rfl
@[simp] theorem State.setScene_port (k : Nat) (x : Scene) (j : Nat) : (s.setScene k x).port j = s.port j := rfl
@[simp] theorem State.setScene_scene_same (k : Nat) (x : Scene) (h : k < 16) : (s.setScene k x).scene k = x :=
  look_put_same s.scenes x _ h
theorem State.setScene_scene_ne (k j : Nat) (x : Scene) (h : j ≠ k) : (s.setScene k x).scene j = s.scene j :=
  look_put_ne s.scenes x _ h

/-! ### setWindow -/

@[simp] theorem State.setWindow_now (w : Nat) (x : Window) : (s.setWindow w x).now = s.now := rfl
@[simp] theorem State.setWindow_inputs (w : Nat) (x : Window) : (s.setWindow w x).inputs = s.inputs := rfl
@[simp] theorem State.setWindow_slots (w : Nat) (x : Window) : (s.setWindow w x).slots = s.slots := rfl
@[simp] theorem State.setWindow_rings (w : Nat) (x : Window) : (s.setWindow w x).rings = s.rings := rfl
@[simp] theorem State.setWindow_stills (w : Nat) (x : Window) : (s.setWindow w x).stills = s.stills := rfl
@[simp] theorem State.setWindow_reservations (w : Nat) (x : Window) : (s.setWindow w x).reservations = s.reservations := rfl
@[simp] theorem State.setWindow_pins (w : Nat) (x : Window) : (s.setWindow w x).pins = s.pins := rfl
@[simp] theorem State.setWindow_time (w : Nat) (x : Window) : (s.setWindow w x).time = s.time := rfl
@[simp] theorem State.setWindow_scenes (w : Nat) (x : Window) : (s.setWindow w x).scenes = s.scenes := rfl
@[simp] theorem State.setWindow_windows (w : Nat) (x : Window) : (s.setWindow w x).windows = put s.windows w x := rfl
@[simp] theorem State.setWindow_comp (w : Nat) (x : Window) : (s.setWindow w x).comp = s.comp := rfl
@[simp] theorem State.setWindow_ports (w : Nat) (x : Window) : (s.setWindow w x).ports = s.ports := rfl
@[simp] theorem State.setWindow_nextLine (w : Nat) (x : Window) : (s.setWindow w x).nextLine = s.nextLine := rfl
@[simp] theorem State.setWindow_link (w : Nat) (x : Window) : (s.setWindow w x).link = s.link := rfl
@[simp] theorem State.setWindow_events (w : Nat) (x : Window) : (s.setWindow w x).events = s.events := rfl
@[simp] theorem State.setWindow_overrideA (w : Nat) (x : Window) : (s.setWindow w x).overrideA = s.overrideA := rfl
@[simp] theorem State.setWindow_overrideB (w : Nat) (x : Window) : (s.setWindow w x).overrideB = s.overrideB := rfl
@[simp] theorem State.setWindow_resetLine (w : Nat) (x : Window) : (s.setWindow w x).resetLine = s.resetLine := rfl
@[simp] theorem State.setWindow_pending (w : Nat) (x : Window) : (s.setWindow w x).pending = s.pending := rfl
@[simp] theorem State.setWindow_input (w : Nat) (x : Window) (j : Nat) : (s.setWindow w x).input j = s.input j := rfl
@[simp] theorem State.setWindow_slot (w : Nat) (x : Window) (j : Nat) : (s.setWindow w x).slot j = s.slot j := rfl
@[simp] theorem State.setWindow_ring (w : Nat) (x : Window) (j : Nat) : (s.setWindow w x).ring j = s.ring j := rfl
@[simp] theorem State.setWindow_still (w : Nat) (x : Window) (j : Nat) : (s.setWindow w x).still j = s.still j := rfl
@[simp] theorem State.setWindow_reservation (w : Nat) (x : Window) (j : Nat) : (s.setWindow w x).reservation j = s.reservation j := rfl
@[simp] theorem State.setWindow_pin (w : Nat) (x : Window) (j : Nat) : (s.setWindow w x).pin j = s.pin j := rfl
@[simp] theorem State.setWindow_scene (w : Nat) (x : Window) (j : Nat) : (s.setWindow w x).scene j = s.scene j := rfl
@[simp] theorem State.setWindow_port (w : Nat) (x : Window) (j : Nat) : (s.setWindow w x).port j = s.port j := rfl
@[simp] theorem State.setWindow_window_same (w : Nat) (x : Window) (h : w < 64) : (s.setWindow w x).window w = x :=
  look_put_same s.windows x _ h
theorem State.setWindow_window_ne (w j : Nat) (x : Window) (h : j ≠ w) : (s.setWindow w x).window j = s.window j :=
  look_put_ne s.windows x _ h

/-! ### setPort -/

@[simp] theorem State.setPort_now (p : Nat) (x : Port) : (s.setPort p x).now = s.now := rfl
@[simp] theorem State.setPort_inputs (p : Nat) (x : Port) : (s.setPort p x).inputs = s.inputs := rfl
@[simp] theorem State.setPort_slots (p : Nat) (x : Port) : (s.setPort p x).slots = s.slots := rfl
@[simp] theorem State.setPort_rings (p : Nat) (x : Port) : (s.setPort p x).rings = s.rings := rfl
@[simp] theorem State.setPort_stills (p : Nat) (x : Port) : (s.setPort p x).stills = s.stills := rfl
@[simp] theorem State.setPort_reservations (p : Nat) (x : Port) : (s.setPort p x).reservations = s.reservations := rfl
@[simp] theorem State.setPort_pins (p : Nat) (x : Port) : (s.setPort p x).pins = s.pins := rfl
@[simp] theorem State.setPort_time (p : Nat) (x : Port) : (s.setPort p x).time = s.time := rfl
@[simp] theorem State.setPort_scenes (p : Nat) (x : Port) : (s.setPort p x).scenes = s.scenes := rfl
@[simp] theorem State.setPort_windows (p : Nat) (x : Port) : (s.setPort p x).windows = s.windows := rfl
@[simp] theorem State.setPort_comp (p : Nat) (x : Port) : (s.setPort p x).comp = s.comp := rfl
@[simp] theorem State.setPort_ports (p : Nat) (x : Port) : (s.setPort p x).ports = put s.ports p x := rfl
@[simp] theorem State.setPort_nextLine (p : Nat) (x : Port) : (s.setPort p x).nextLine = s.nextLine := rfl
@[simp] theorem State.setPort_link (p : Nat) (x : Port) : (s.setPort p x).link = s.link := rfl
@[simp] theorem State.setPort_events (p : Nat) (x : Port) : (s.setPort p x).events = s.events := rfl
@[simp] theorem State.setPort_overrideA (p : Nat) (x : Port) : (s.setPort p x).overrideA = s.overrideA := rfl
@[simp] theorem State.setPort_overrideB (p : Nat) (x : Port) : (s.setPort p x).overrideB = s.overrideB := rfl
@[simp] theorem State.setPort_resetLine (p : Nat) (x : Port) : (s.setPort p x).resetLine = s.resetLine := rfl
@[simp] theorem State.setPort_pending (p : Nat) (x : Port) : (s.setPort p x).pending = s.pending := rfl
@[simp] theorem State.setPort_input (p : Nat) (x : Port) (j : Nat) : (s.setPort p x).input j = s.input j := rfl
@[simp] theorem State.setPort_slot (p : Nat) (x : Port) (j : Nat) : (s.setPort p x).slot j = s.slot j := rfl
@[simp] theorem State.setPort_ring (p : Nat) (x : Port) (j : Nat) : (s.setPort p x).ring j = s.ring j := rfl
@[simp] theorem State.setPort_still (p : Nat) (x : Port) (j : Nat) : (s.setPort p x).still j = s.still j := rfl
@[simp] theorem State.setPort_reservation (p : Nat) (x : Port) (j : Nat) : (s.setPort p x).reservation j = s.reservation j := rfl
@[simp] theorem State.setPort_pin (p : Nat) (x : Port) (j : Nat) : (s.setPort p x).pin j = s.pin j := rfl
@[simp] theorem State.setPort_scene (p : Nat) (x : Port) (j : Nat) : (s.setPort p x).scene j = s.scene j := rfl
@[simp] theorem State.setPort_window (p : Nat) (x : Port) (j : Nat) : (s.setPort p x).window j = s.window j := rfl
@[simp] theorem State.setPort_port_same (p : Nat) (x : Port) (h : p < 12) : (s.setPort p x).port p = x :=
  look_put_same s.ports x _ h
theorem State.setPort_port_ne (p j : Nat) (x : Port) (h : j ≠ p) : (s.setPort p x).port j = s.port j :=
  look_put_ne s.ports x _ h

/-! ### setTime -/

@[simp] theorem State.setTime_now (x : TimeBase) : (s.setTime x).now = s.now := rfl
@[simp] theorem State.setTime_inputs (x : TimeBase) : (s.setTime x).inputs = s.inputs := rfl
@[simp] theorem State.setTime_slots (x : TimeBase) : (s.setTime x).slots = s.slots := rfl
@[simp] theorem State.setTime_rings (x : TimeBase) : (s.setTime x).rings = s.rings := rfl
@[simp] theorem State.setTime_stills (x : TimeBase) : (s.setTime x).stills = s.stills := rfl
@[simp] theorem State.setTime_reservations (x : TimeBase) : (s.setTime x).reservations = s.reservations := rfl
@[simp] theorem State.setTime_pins (x : TimeBase) : (s.setTime x).pins = s.pins := rfl
@[simp] theorem State.setTime_time (x : TimeBase) : (s.setTime x).time = x := rfl
@[simp] theorem State.setTime_scenes (x : TimeBase) : (s.setTime x).scenes = s.scenes := rfl
@[simp] theorem State.setTime_windows (x : TimeBase) : (s.setTime x).windows = s.windows := rfl
@[simp] theorem State.setTime_comp (x : TimeBase) : (s.setTime x).comp = s.comp := rfl
@[simp] theorem State.setTime_ports (x : TimeBase) : (s.setTime x).ports = s.ports := rfl
@[simp] theorem State.setTime_nextLine (x : TimeBase) : (s.setTime x).nextLine = s.nextLine := rfl
@[simp] theorem State.setTime_link (x : TimeBase) : (s.setTime x).link = s.link := rfl
@[simp] theorem State.setTime_events (x : TimeBase) : (s.setTime x).events = s.events := rfl
@[simp] theorem State.setTime_overrideA (x : TimeBase) : (s.setTime x).overrideA = s.overrideA := rfl
@[simp] theorem State.setTime_overrideB (x : TimeBase) : (s.setTime x).overrideB = s.overrideB := rfl
@[simp] theorem State.setTime_resetLine (x : TimeBase) : (s.setTime x).resetLine = s.resetLine := rfl
@[simp] theorem State.setTime_pending (x : TimeBase) : (s.setTime x).pending = s.pending := rfl
@[simp] theorem State.setTime_input (x : TimeBase) (j : Nat) : (s.setTime x).input j = s.input j := rfl
@[simp] theorem State.setTime_slot (x : TimeBase) (j : Nat) : (s.setTime x).slot j = s.slot j := rfl
@[simp] theorem State.setTime_ring (x : TimeBase) (j : Nat) : (s.setTime x).ring j = s.ring j := rfl
@[simp] theorem State.setTime_still (x : TimeBase) (j : Nat) : (s.setTime x).still j = s.still j := rfl
@[simp] theorem State.setTime_reservation (x : TimeBase) (j : Nat) : (s.setTime x).reservation j = s.reservation j := rfl
@[simp] theorem State.setTime_pin (x : TimeBase) (j : Nat) : (s.setTime x).pin j = s.pin j := rfl
@[simp] theorem State.setTime_scene (x : TimeBase) (j : Nat) : (s.setTime x).scene j = s.scene j := rfl
@[simp] theorem State.setTime_window (x : TimeBase) (j : Nat) : (s.setTime x).window j = s.window j := rfl
@[simp] theorem State.setTime_port (x : TimeBase) (j : Nat) : (s.setTime x).port j = s.port j := rfl

/-! ### setComp -/

@[simp] theorem State.setComp_now (x : Compositor) : (s.setComp x).now = s.now := rfl
@[simp] theorem State.setComp_inputs (x : Compositor) : (s.setComp x).inputs = s.inputs := rfl
@[simp] theorem State.setComp_slots (x : Compositor) : (s.setComp x).slots = s.slots := rfl
@[simp] theorem State.setComp_rings (x : Compositor) : (s.setComp x).rings = s.rings := rfl
@[simp] theorem State.setComp_stills (x : Compositor) : (s.setComp x).stills = s.stills := rfl
@[simp] theorem State.setComp_reservations (x : Compositor) : (s.setComp x).reservations = s.reservations := rfl
@[simp] theorem State.setComp_pins (x : Compositor) : (s.setComp x).pins = s.pins := rfl
@[simp] theorem State.setComp_time (x : Compositor) : (s.setComp x).time = s.time := rfl
@[simp] theorem State.setComp_scenes (x : Compositor) : (s.setComp x).scenes = s.scenes := rfl
@[simp] theorem State.setComp_windows (x : Compositor) : (s.setComp x).windows = s.windows := rfl
@[simp] theorem State.setComp_comp (x : Compositor) : (s.setComp x).comp = x := rfl
@[simp] theorem State.setComp_ports (x : Compositor) : (s.setComp x).ports = s.ports := rfl
@[simp] theorem State.setComp_nextLine (x : Compositor) : (s.setComp x).nextLine = s.nextLine := rfl
@[simp] theorem State.setComp_link (x : Compositor) : (s.setComp x).link = s.link := rfl
@[simp] theorem State.setComp_events (x : Compositor) : (s.setComp x).events = s.events := rfl
@[simp] theorem State.setComp_overrideA (x : Compositor) : (s.setComp x).overrideA = s.overrideA := rfl
@[simp] theorem State.setComp_overrideB (x : Compositor) : (s.setComp x).overrideB = s.overrideB := rfl
@[simp] theorem State.setComp_resetLine (x : Compositor) : (s.setComp x).resetLine = s.resetLine := rfl
@[simp] theorem State.setComp_pending (x : Compositor) : (s.setComp x).pending = s.pending := rfl
@[simp] theorem State.setComp_input (x : Compositor) (j : Nat) : (s.setComp x).input j = s.input j := rfl
@[simp] theorem State.setComp_slot (x : Compositor) (j : Nat) : (s.setComp x).slot j = s.slot j := rfl
@[simp] theorem State.setComp_ring (x : Compositor) (j : Nat) : (s.setComp x).ring j = s.ring j := rfl
@[simp] theorem State.setComp_still (x : Compositor) (j : Nat) : (s.setComp x).still j = s.still j := rfl
@[simp] theorem State.setComp_reservation (x : Compositor) (j : Nat) : (s.setComp x).reservation j = s.reservation j := rfl
@[simp] theorem State.setComp_pin (x : Compositor) (j : Nat) : (s.setComp x).pin j = s.pin j := rfl
@[simp] theorem State.setComp_scene (x : Compositor) (j : Nat) : (s.setComp x).scene j = s.scene j := rfl
@[simp] theorem State.setComp_window (x : Compositor) (j : Nat) : (s.setComp x).window j = s.window j := rfl
@[simp] theorem State.setComp_port (x : Compositor) (j : Nat) : (s.setComp x).port j = s.port j := rfl

/-! ### setLink -/

@[simp] theorem State.setLink_now (x : Link) : (s.setLink x).now = s.now := rfl
@[simp] theorem State.setLink_inputs (x : Link) : (s.setLink x).inputs = s.inputs := rfl
@[simp] theorem State.setLink_slots (x : Link) : (s.setLink x).slots = s.slots := rfl
@[simp] theorem State.setLink_rings (x : Link) : (s.setLink x).rings = s.rings := rfl
@[simp] theorem State.setLink_stills (x : Link) : (s.setLink x).stills = s.stills := rfl
@[simp] theorem State.setLink_reservations (x : Link) : (s.setLink x).reservations = s.reservations := rfl
@[simp] theorem State.setLink_pins (x : Link) : (s.setLink x).pins = s.pins := rfl
@[simp] theorem State.setLink_time (x : Link) : (s.setLink x).time = s.time := rfl
@[simp] theorem State.setLink_scenes (x : Link) : (s.setLink x).scenes = s.scenes := rfl
@[simp] theorem State.setLink_windows (x : Link) : (s.setLink x).windows = s.windows := rfl
@[simp] theorem State.setLink_comp (x : Link) : (s.setLink x).comp = s.comp := rfl
@[simp] theorem State.setLink_ports (x : Link) : (s.setLink x).ports = s.ports := rfl
@[simp] theorem State.setLink_nextLine (x : Link) : (s.setLink x).nextLine = s.nextLine := rfl
@[simp] theorem State.setLink_link (x : Link) : (s.setLink x).link = x := rfl
@[simp] theorem State.setLink_events (x : Link) : (s.setLink x).events = s.events := rfl
@[simp] theorem State.setLink_overrideA (x : Link) : (s.setLink x).overrideA = s.overrideA := rfl
@[simp] theorem State.setLink_overrideB (x : Link) : (s.setLink x).overrideB = s.overrideB := rfl
@[simp] theorem State.setLink_resetLine (x : Link) : (s.setLink x).resetLine = s.resetLine := rfl
@[simp] theorem State.setLink_pending (x : Link) : (s.setLink x).pending = s.pending := rfl
@[simp] theorem State.setLink_input (x : Link) (j : Nat) : (s.setLink x).input j = s.input j := rfl
@[simp] theorem State.setLink_slot (x : Link) (j : Nat) : (s.setLink x).slot j = s.slot j := rfl
@[simp] theorem State.setLink_ring (x : Link) (j : Nat) : (s.setLink x).ring j = s.ring j := rfl
@[simp] theorem State.setLink_still (x : Link) (j : Nat) : (s.setLink x).still j = s.still j := rfl
@[simp] theorem State.setLink_reservation (x : Link) (j : Nat) : (s.setLink x).reservation j = s.reservation j := rfl
@[simp] theorem State.setLink_pin (x : Link) (j : Nat) : (s.setLink x).pin j = s.pin j := rfl
@[simp] theorem State.setLink_scene (x : Link) (j : Nat) : (s.setLink x).scene j = s.scene j := rfl
@[simp] theorem State.setLink_window (x : Link) (j : Nat) : (s.setLink x).window j = s.window j := rfl
@[simp] theorem State.setLink_port (x : Link) (j : Nat) : (s.setLink x).port j = s.port j := rfl

/-! ### setEvents -/

@[simp] theorem State.setEvents_now (x : EventUnit) : (s.setEvents x).now = s.now := rfl
@[simp] theorem State.setEvents_inputs (x : EventUnit) : (s.setEvents x).inputs = s.inputs := rfl
@[simp] theorem State.setEvents_slots (x : EventUnit) : (s.setEvents x).slots = s.slots := rfl
@[simp] theorem State.setEvents_rings (x : EventUnit) : (s.setEvents x).rings = s.rings := rfl
@[simp] theorem State.setEvents_stills (x : EventUnit) : (s.setEvents x).stills = s.stills := rfl
@[simp] theorem State.setEvents_reservations (x : EventUnit) : (s.setEvents x).reservations = s.reservations := rfl
@[simp] theorem State.setEvents_pins (x : EventUnit) : (s.setEvents x).pins = s.pins := rfl
@[simp] theorem State.setEvents_time (x : EventUnit) : (s.setEvents x).time = s.time := rfl
@[simp] theorem State.setEvents_scenes (x : EventUnit) : (s.setEvents x).scenes = s.scenes := rfl
@[simp] theorem State.setEvents_windows (x : EventUnit) : (s.setEvents x).windows = s.windows := rfl
@[simp] theorem State.setEvents_comp (x : EventUnit) : (s.setEvents x).comp = s.comp := rfl
@[simp] theorem State.setEvents_ports (x : EventUnit) : (s.setEvents x).ports = s.ports := rfl
@[simp] theorem State.setEvents_nextLine (x : EventUnit) : (s.setEvents x).nextLine = s.nextLine := rfl
@[simp] theorem State.setEvents_link (x : EventUnit) : (s.setEvents x).link = s.link := rfl
@[simp] theorem State.setEvents_events (x : EventUnit) : (s.setEvents x).events = x := rfl
@[simp] theorem State.setEvents_overrideA (x : EventUnit) : (s.setEvents x).overrideA = s.overrideA := rfl
@[simp] theorem State.setEvents_overrideB (x : EventUnit) : (s.setEvents x).overrideB = s.overrideB := rfl
@[simp] theorem State.setEvents_resetLine (x : EventUnit) : (s.setEvents x).resetLine = s.resetLine := rfl
@[simp] theorem State.setEvents_pending (x : EventUnit) : (s.setEvents x).pending = s.pending := rfl
@[simp] theorem State.setEvents_input (x : EventUnit) (j : Nat) : (s.setEvents x).input j = s.input j := rfl
@[simp] theorem State.setEvents_slot (x : EventUnit) (j : Nat) : (s.setEvents x).slot j = s.slot j := rfl
@[simp] theorem State.setEvents_ring (x : EventUnit) (j : Nat) : (s.setEvents x).ring j = s.ring j := rfl
@[simp] theorem State.setEvents_still (x : EventUnit) (j : Nat) : (s.setEvents x).still j = s.still j := rfl
@[simp] theorem State.setEvents_reservation (x : EventUnit) (j : Nat) : (s.setEvents x).reservation j = s.reservation j := rfl
@[simp] theorem State.setEvents_pin (x : EventUnit) (j : Nat) : (s.setEvents x).pin j = s.pin j := rfl
@[simp] theorem State.setEvents_scene (x : EventUnit) (j : Nat) : (s.setEvents x).scene j = s.scene j := rfl
@[simp] theorem State.setEvents_window (x : EventUnit) (j : Nat) : (s.setEvents x).window j = s.window j := rfl
@[simp] theorem State.setEvents_port (x : EventUnit) (j : Nat) : (s.setEvents x).port j = s.port j := rfl

/-! ### alterSlots and reach -/

@[simp] theorem State.alterSlots_now (ns : List Nat) (f : Slot → Slot) : (s.alterSlots ns f).now = s.now := rfl
@[simp] theorem State.alterSlots_inputs (ns : List Nat) (f : Slot → Slot) : (s.alterSlots ns f).inputs = s.inputs := rfl
@[simp] theorem State.alterSlots_slots (ns : List Nat) (f : Slot → Slot) : (s.alterSlots ns f).slots = alter s.slots ns f := rfl
@[simp] theorem State.alterSlots_rings (ns : List Nat) (f : Slot → Slot) : (s.alterSlots ns f).rings = s.rings := rfl
@[simp] theorem State.alterSlots_stills (ns : List Nat) (f : Slot → Slot) : (s.alterSlots ns f).stills = s.stills := rfl
@[simp] theorem State.alterSlots_reservations (ns : List Nat) (f : Slot → Slot) : (s.alterSlots ns f).reservations = s.reservations := rfl
@[simp] theorem State.alterSlots_pins (ns : List Nat) (f : Slot → Slot) : (s.alterSlots ns f).pins = s.pins := rfl
@[simp] theorem State.alterSlots_time (ns : List Nat) (f : Slot → Slot) : (s.alterSlots ns f).time = s.time := rfl
@[simp] theorem State.alterSlots_scenes (ns : List Nat) (f : Slot → Slot) : (s.alterSlots ns f).scenes = s.scenes := rfl
@[simp] theorem State.alterSlots_windows (ns : List Nat) (f : Slot → Slot) : (s.alterSlots ns f).windows = s.windows := rfl
@[simp] theorem State.alterSlots_comp (ns : List Nat) (f : Slot → Slot) : (s.alterSlots ns f).comp = s.comp := rfl
@[simp] theorem State.alterSlots_ports (ns : List Nat) (f : Slot → Slot) : (s.alterSlots ns f).ports = s.ports := rfl
@[simp] theorem State.alterSlots_nextLine (ns : List Nat) (f : Slot → Slot) : (s.alterSlots ns f).nextLine = s.nextLine := rfl
@[simp] theorem State.alterSlots_link (ns : List Nat) (f : Slot → Slot) : (s.alterSlots ns f).link = s.link := rfl
@[simp] theorem State.alterSlots_events (ns : List Nat) (f : Slot → Slot) : (s.alterSlots ns f).events = s.events := rfl
@[simp] theorem State.alterSlots_overrideA (ns : List Nat) (f : Slot → Slot) : (s.alterSlots ns f).overrideA = s.overrideA := rfl
@[simp] theorem State.alterSlots_overrideB (ns : List Nat) (f : Slot → Slot) : (s.alterSlots ns f).overrideB = s.overrideB := rfl
@[simp] theorem State.alterSlots_resetLine (ns : List Nat) (f : Slot → Slot) : (s.alterSlots ns f).resetLine = s.resetLine := rfl
@[simp] theorem State.alterSlots_pending (ns : List Nat) (f : Slot → Slot) : (s.alterSlots ns f).pending = s.pending := rfl
@[simp] theorem State.alterSlots_input (ns : List Nat) (f : Slot → Slot) (j : Nat) : (s.alterSlots ns f).input j = s.input j := rfl
@[simp] theorem State.alterSlots_ring (ns : List Nat) (f : Slot → Slot) (j : Nat) : (s.alterSlots ns f).ring j = s.ring j := rfl
@[simp] theorem State.alterSlots_still (ns : List Nat) (f : Slot → Slot) (j : Nat) : (s.alterSlots ns f).still j = s.still j := rfl
@[simp] theorem State.alterSlots_reservation (ns : List Nat) (f : Slot → Slot) (j : Nat) : (s.alterSlots ns f).reservation j = s.reservation j := rfl
@[simp] theorem State.alterSlots_pin (ns : List Nat) (f : Slot → Slot) (j : Nat) : (s.alterSlots ns f).pin j = s.pin j := rfl
@[simp] theorem State.alterSlots_scene (ns : List Nat) (f : Slot → Slot) (j : Nat) : (s.alterSlots ns f).scene j = s.scene j := rfl
@[simp] theorem State.alterSlots_window (ns : List Nat) (f : Slot → Slot) (j : Nat) : (s.alterSlots ns f).window j = s.window j := rfl
@[simp] theorem State.alterSlots_port (ns : List Nat) (f : Slot → Slot) (j : Nat) : (s.alterSlots ns f).port j = s.port j := rfl
theorem State.alterSlots_slot (ns : List Nat) (f : Slot → Slot) (n : Nat) (h : n < 96) :
    (s.alterSlots ns f).slot n = if ns.contains n then f (s.slot n) else s.slot n :=
  look_alter s.slots ns f Slot.reset h
@[simp] theorem State.reach_now (t : Ticks) : (s.reach t).now = max s.now t := rfl
@[simp] theorem State.reach_inputs (t : Ticks) : (s.reach t).inputs = s.inputs := rfl
@[simp] theorem State.reach_slots (t : Ticks) : (s.reach t).slots = s.slots := rfl
@[simp] theorem State.reach_rings (t : Ticks) : (s.reach t).rings = s.rings := rfl
@[simp] theorem State.reach_stills (t : Ticks) : (s.reach t).stills = s.stills := rfl
@[simp] theorem State.reach_reservations (t : Ticks) : (s.reach t).reservations = s.reservations := rfl
@[simp] theorem State.reach_pins (t : Ticks) : (s.reach t).pins = s.pins := rfl
@[simp] theorem State.reach_time (t : Ticks) : (s.reach t).time = s.time := rfl
@[simp] theorem State.reach_scenes (t : Ticks) : (s.reach t).scenes = s.scenes := rfl
@[simp] theorem State.reach_windows (t : Ticks) : (s.reach t).windows = s.windows := rfl
@[simp] theorem State.reach_comp (t : Ticks) : (s.reach t).comp = s.comp := rfl
@[simp] theorem State.reach_ports (t : Ticks) : (s.reach t).ports = s.ports := rfl
@[simp] theorem State.reach_nextLine (t : Ticks) : (s.reach t).nextLine = s.nextLine := rfl
@[simp] theorem State.reach_link (t : Ticks) : (s.reach t).link = s.link := rfl
@[simp] theorem State.reach_events (t : Ticks) : (s.reach t).events = s.events := rfl
@[simp] theorem State.reach_overrideA (t : Ticks) : (s.reach t).overrideA = s.overrideA := rfl
@[simp] theorem State.reach_overrideB (t : Ticks) : (s.reach t).overrideB = s.overrideB := rfl
@[simp] theorem State.reach_resetLine (t : Ticks) : (s.reach t).resetLine = s.resetLine := rfl
@[simp] theorem State.reach_pending (t : Ticks) : (s.reach t).pending = s.pending := rfl
@[simp] theorem State.reach_input (t : Ticks) (j : Nat) : (s.reach t).input j = s.input j := rfl
@[simp] theorem State.reach_slot (t : Ticks) (j : Nat) : (s.reach t).slot j = s.slot j := rfl
@[simp] theorem State.reach_ring (t : Ticks) (j : Nat) : (s.reach t).ring j = s.ring j := rfl
@[simp] theorem State.reach_still (t : Ticks) (j : Nat) : (s.reach t).still j = s.still j := rfl
@[simp] theorem State.reach_reservation (t : Ticks) (j : Nat) : (s.reach t).reservation j = s.reservation j := rfl
@[simp] theorem State.reach_pin (t : Ticks) (j : Nat) : (s.reach t).pin j = s.pin j := rfl
@[simp] theorem State.reach_scene (t : Ticks) (j : Nat) : (s.reach t).scene j = s.scene j := rfl
@[simp] theorem State.reach_window (t : Ticks) (j : Nat) : (s.reach t).window j = s.window j := rfl
@[simp] theorem State.reach_port (t : Ticks) (j : Nat) : (s.reach t).port j = s.port j := rfl

end Sys2Proof.Machine
end

