-- ==== Sys2Proof/Laws/Ops.lean ====
section
/-! SUPPORT. For each shared operation, one lemma that says everything it can do: cite these, do not unfold the
operation. -/

namespace Sys2Proof.Machine

variable {s t : State}

/-! ### Running and raising -/

/-- `whenRunning` answers one next state: the state itself under the RESET line, the event's effect otherwise. -/
theorem whenRunning_next {f : State → State} :
    whenRunning s f = .next t ↔ t = if s.resetLine then s else f s := by
  unfold whenRunning
  constructor
  · intro h; cases h; rfl
  · intro h; rw [h]

/-- With the RESET line not asserted the event has its effect. -/
theorem whenRunning_run {f : State → State} (h : s.resetLine = false) : whenRunning s f = .next (f s) := by
  simp [whenRunning, h]

/-- A raise changes the event unit only. -/
theorem raise_eq (e : Event) (s : State) : raise e s = { s with events := s.events.raised e } := rfl

/-- A raise of a disabled kind changes nothing (R159). -/
theorem raised_disabled {u : EventUnit} {e : Event} (h : u.enabled e.code = false) : u.raised e = u := by
  simp [EventUnit.raised, h]

/-- A raise of an enabled kind records it (R159). -/
theorem raised_enabled {u : EventUnit} {e : Event} (h : u.enabled e.code = true) :
    u.raised e = { u with entries := recordEntry u.entries e } := by
  simp [EventUnit.raised, h]

/-- Events of one entry have one kind, and so one level and one clearing class. -/
theorem sameEntry_code {a b : Event} (h : a.sameEntry b = true) : a.code = b.code ∧ a.number = b.number := by
  simpa [Event.sameEntry, Bool.and_eq_true] using h

/-- The level follows from the kind (Table 10.1). -/
theorem level_of_code {a b : Event} (h : a.code = b.code) : a.level = b.level := by
  cases a <;> cases b <;> simp_all [Event.code, Event.level]

/-- The clearing class follows from the kind (Table 10.1). -/
theorem held_of_code {a b : Event} (h : a.code = b.code) : a.held = b.held := by
  cases a <;> cases b <;> simp_all [Event.code, Event.held]

/-- What a raise leaves in the set: an entry it merged into, an entry it did not touch, or the one it created (R159). -/
theorem mem_recordEntry {es : List Entry} {e : Event} {x : Entry} (h : x ∈ recordEntry es e) :
    (∃ y ∈ es, y.event.sameEntry e = true ∧ x = { y with event := e, count := min (y.count + 1) 65535 })
      ∨ (x ∈ es ∧ x.event.sameEntry e = false)
      ∨ (x = { event := e, count := 1, reported := false } ∧ ∀ y ∈ es, y.event.sameEntry e = false) := by
  unfold recordEntry at h
  split at h
  · obtain ⟨y, hy, rfl⟩ := List.mem_map.1 h
    split
    · exact .inl ⟨y, hy, ‹_›, rfl⟩
    · exact .inr (.inl ⟨hy, Bool.eq_false_iff.2 ‹_›⟩)
  · rename_i hn
    have hn : ∀ y ∈ es, y.event.sameEntry e = false := by simpa using hn
    simp only [List.mem_append, List.mem_singleton] at h
    rcases h with (h | h) | h
    · exact .inr (.inl ⟨List.takeWhile_subset _ h, hn _ (List.takeWhile_subset _ h)⟩)
    · exact .inr (.inr ⟨h, hn⟩)
    · exact .inr (.inl ⟨List.dropWhile_subset _ h, hn _ (List.dropWhile_subset _ h)⟩)

/-! ### Replies and the pending request table -/

/-- A request answered at once gives back the place that its dispatch reserved (R150). -/
theorem answer_reserved (tag kind : Byte) (status : Status) (s : State) :
    answer tag kind status (reservePlace s) = s.replied tag kind status [] := by
  simp [answer, queueReply, reservePlace, State.setLink, State.replied]

/-- A query answered at once gives back the place that its dispatch reserved (R150). -/
theorem answerData_reserved (tag kind : Byte) (data : List Byte) (s : State) :
    answerData tag kind data (reservePlace s) = s.replied tag kind .done data := by
  simp [answerData, queueReply, reservePlace, State.setLink, State.replied]

/-- A request that enters the table keeps its place reserved (R150, R153). -/
theorem enterTable_reserved (tag : Byte) (p : PendingTarget) (s : State) :
    enterTable tag p (reservePlace s) = s.entered tag p := rfl

/-- Dispatch changes the number of reserved places only (R150). -/
theorem reservePlace_eq (s : State) :
    reservePlace s = { s with link := { s.link with reserved := s.link.reserved + 1 } } := rfl

/-- A ready link has a free place. -/
theorem freePlaces_of_ready (h : s.Ready) : 0 < s.link.freePlaces := by
  have := h.place
  simp only [Link.freePlaces, Config.replyPlaces]
  omega

/-- At a ready link a request is dispatched at once (R149, R150). -/
theorem arrive_ready (h : s.Ready) (c : Instr) (f : State → State) : arrive c f s = f (reservePlace s) := by
  simp [arrive, h.serving, h.empty, freePlaces_of_ready h]

/-- At a ready link a request's command is its owner's work. -/
theorem request_ready (h : s.Ready) (c : Instr) (f : State → State) :
    whenRunning s (arrive c f) = .next (f (reservePlace s)) := by
  rw [whenRunning_run h.running, arrive_ready h]

/-- During a Device Reset an arriving request is lost (R156 (1)). -/
theorem queueFrame_resetting (h : s.link.resetting = true) (f : Frame) : queueFrame f s = s := by
  simp [queueFrame, h]

/-- A complete frame that finds room joins the tail (R149). -/
theorem queueFrame_room (h : s.link.resetting = false) (hq : s.link.queue.length < 4) (f : Frame) :
    queueFrame f s = { s with link := { s.link with queue := s.link.queue ++ [f] } } := by
  simp [queueFrame, h, hq, State.setLink, Config.receiveFrames]

/-- A complete frame that finds four frames is an overrun (R149). -/
theorem queueFrame_overrun (h : s.link.resetting = false) (hq : 4 ≤ s.link.queue.length) (f : Frame) :
    queueFrame f s = raise .linkError { s with link := { s.link with errors := min (s.link.errors + 1) 65535 } } := by
  simp [queueFrame, linkError, h, Nat.not_lt.2 hq, State.setLink, Config.receiveFrames, Link.countError]

/-- An ending changes the table, the queued replies and the reserved places only (R154). -/
theorem endPending_eq (f : PendingTarget → Option Status) (s : State) :
    endPending f s = { s with link := { s.link with
      table := s.link.table.filter fun e => (f e.target).isNone
      replies := s.link.replies ++ s.link.table.filterMap fun e => (f e.target).map e.reply
      reserved := s.link.reserved - (s.link.table.filterMap fun e => (f e.target).map e.reply).length } } := rfl

/-- As many replies are queued as entries leave the table (R154). -/
theorem ended_length (f : PendingTarget → Option Status) (l : List PendingRequest) :
    (l.filterMap fun e => (f e.target).map e.reply).length + (l.filter fun e => (f e.target).isNone).length
      = l.length := by
  induction l with
  | nil => rfl
  | cons e rest ih =>
    cases h : f e.target <;> simp [h] <;> omega

/-! ### Slots -/

/-- A claim adds 1, saturating at 32, and touches nothing else (R26). -/
theorem addClaim_slot (n j : Nat) (hn : n < 96) (s : State) :
    (addClaim n s).slot j
      = if j = n then { s.slot n with claims := min ((s.slot n).claims + 1) 32 } else s.slot j := by
  split
  · subst j; exact State.setSlot_slot_same _ _ _ hn
  · exact State.setSlot_slot_ne _ _ _ _ ‹_›

/-- Everything a claim leaves alone. -/
theorem addClaim_eq (n : Nat) (s : State) : addClaim n s = { s with slots := (addClaim n s).slots } := rfl

/-- Where a candidate holds no frame the first of these in ring position order is the write slot (R42). -/
theorem writeSlot_unused {i n : Nat}
    (h : (s.writeCandidates i).find? (fun n => (s.slot n).state == .empty || (s.slot n).state == .stale) = some n) :
    s.writeSlot i = some n := by
  simp [State.writeSlot, h]

/-- Otherwise the write slot is the candidate nearest the tail of the age list, if there is one (R42). -/
theorem writeSlot_oldest {i : Nat}
    (h : ∀ n ∈ s.writeCandidates i, (s.slot n).state ≠ .empty ∧ (s.slot n).state ≠ .stale) :
    s.writeSlot i = (s.ring i).age.reverse.find? (s.writeCandidates i).contains := by
  have : (s.writeCandidates i).find? (fun n => (s.slot n).state == .empty || (s.slot n).state == .stale) = none := by
    simpa [List.find?_eq_none] using h
  simp only [State.writeSlot, this]

/-- The writer chooses none but a candidate (R42). -/
theorem writeSlot_mem {i n : Nat} (h : s.writeSlot i = some n) : n ∈ s.writeCandidates i := by
  unfold State.writeSlot at h
  dsimp only at h
  split at h
  · cases h; exact List.mem_of_find?_eq_some ‹_›
  · have := List.find?_some h
    simpa using this

/-- A candidate: a slot of the ring, held by nothing, not FILLING and not the head of the age list (R42). -/
theorem mem_writeCandidates {i n : Nat} :
    n ∈ s.writeCandidates i ↔ n ∈ (s.ring i).slots ∧ (s.slot n).claims = 0 ∧ (s.slot n).pinned = none
      ∧ (s.slot n).state ≠ .filling ∧ (s.ring i).age.head? ≠ some n := by
  simp [State.writeCandidates, List.mem_filter, and_assoc]

/-- A slot of the ring that is marked stale (R54). -/
theorem markStale_slot {i n : Nat} (hn : n < 96) (h : n ∈ (s.ring i).slots) : MarkedStale s (markStale i s) i n := by
  have e : (markStale i s).slot n = (s.slot n).marked i := by
    show look (alter s.slots (s.ring i).slots (Slot.marked i)) n Slot.reset = _
    rw [look_alter _ _ _ _ hn, if_pos (by simpa using h)]
    rfl
  refine ⟨fun hc hp => ?_, fun hf => ?_, fun hf ho => ?_⟩ <;> rw [e]
  · simp [Slot.marked, hc, hp]
  · simp [Slot.marked, hf, Slot.toEmpty]
  · unfold Slot.marked
    split
    · rcases ho with ho | ho
      · exact absurd ‹_› ho
      · simp [Option.isNone_iff_eq_none, Option.isSome_iff_ne_none.1 ho]
    · exact absurd ‹_› hf
    all_goals rfl

/-- A slot outside the ring that is marked stale is as it was (R54). -/
theorem markStale_outside {i n : Nat} (h : n ∉ (s.ring i).slots) : (markStale i s).slot n = s.slot n := by
  show look (alter s.slots (s.ring i).slots (Slot.marked i)) n Slot.reset = look s.slots n Slot.reset
  by_cases hn : n < 96
  · rw [look_alter _ _ _ _ hn, if_neg (by simpa using h)]
  · rw [look_outside _ _ (Nat.le_of_not_lt hn), look_outside _ _ (Nat.le_of_not_lt hn)]

/-- The end of a frame that is not stored whole empties the slot being filled, if there is one (R44). -/
theorem badEnd_emptied (i : Nat) (stored : Bool) (s : State) :
    FillingEmptied s (if stored then badEnd i s else s) i stored := by
  refine ⟨fun h => ?_, fun hs before n after hr hn hb => ?_⟩
  · rcases h with rfl | h
    · rfl
    · have : s.fillingSlot i = none := by simpa [State.fillingSlot, List.find?_eq_none] using h
      split
      · unfold badEnd; rw [this]
      · rfl
  · subst hs
    have : s.fillingSlot i = some n := by
      unfold State.fillingSlot
      rw [hr, List.find?_append, List.find?_eq_none.2 (by simpa using hb)]
      simp [hn]
    simp only [if_true, badEnd, this]
    rfl

/-- The three outcomes of releasing a window pin (R53): no pin; a pin another window shares; the last pin. -/
theorem releasePin_none {w : Nat} {b : Bool} (h : s.pin w = none) : releasePin w b s = s := by
  simp [releasePin, h]

/-- What releasing a window pin can change. -/
theorem releasePin_eq (w : Nat) (b : Bool) (s : State) :
    releasePin w b s = { s with pins := (releasePin w b s).pins, slots := (releasePin w b s).slots } := by
  unfold releasePin
  split
  · rfl
  · cases b <;> rfl

/-- What unfreezing a window can change. -/
theorem unfreeze_eq (w : Nat) (b : Bool) (s : State) :
    unfreeze w b s = { s with
      windows := put s.windows w { s.window w with frozen := false }
      pins := (unfreeze w b s).pins
      slots := (unfreeze w b s).slots } := by
  unfold unfreeze
  rw [releasePin_eq]
  rfl

/-! ### Choices, claims and the claim record -/

/-- Recording a choice changes the claim record only. -/
theorem recordChoice_eq (w : Nat) (src : Shown) (c : Choice) (s : State) :
    recordChoice w src c s = { s with comp := (recordChoice w src c s).comp } := rfl

/-- A window source just recorded has that choice, and every other keeps its own (R50). -/
theorem recordChoice_recorded (w v : Nat) (src other : Shown) (c : Choice) (s : State) :
    (recordChoice w src c s).recorded v other = if v = w ∧ other = src then some c else s.recorded v other := by
  have keep : (s.comp.record.filter fun e => !e.isOf w src).find? (fun e => e.isOf v other)
      = if v = w ∧ other = src then none else s.comp.record.find? fun e => e.isOf v other := by
    rw [List.find?_filter]
    split
    · rename_i h; obtain ⟨rfl, rfl⟩ := h; simp
    · rename_i h
      congr 1
      funext e
      simp only [ClaimEntry.isOf]
      by_cases hw : e.window = v <;> by_cases hs : e.source = other <;> simp [hw, hs]
      exact not_and_or.1 h
  simp only [recordChoice, State.recorded, State.setComp, List.find?_append, keep]
  split
  · rename_i h; obtain ⟨rfl, rfl⟩ := h; simp [ClaimEntry.isOf]
  · rename_i h
    have : ({ window := w, source := src, choice := c } : ClaimEntry).isOf v other = false := by
      simp only [ClaimEntry.isOf, Bool.and_eq_false_iff, beq_eq_false_iff_ne]
      by_cases hv : w = v
      · exact .inr fun ho => h ⟨hv.symm, ho.symm⟩
      · exact .inl hv
    simp [this]

/-- A choice claims its slot, if it is one, and changes nothing else (R26). -/
theorem claimChoice_eq (c : Choice) (s : State) : claimChoice c s = { s with slots := (claimChoice c s).slots } := by
  cases c <;> rfl

/-- A claim changes the claims field of a slot only (R26). -/
theorem addClaim_claims (m n : Nat) (s : State) :
    (addClaim m s).slot n = { s.slot n with claims := ((addClaim m s).slot n).claims } := by
  by_cases h : m < 96
  · rw [addClaim_slot m n h]
    split
    · subst n; rfl
    · rfl
  · have : addClaim m s = s := by simp [addClaim, State.setSlot, put_outside _ _ (Nat.le_of_not_lt h)]
    rw [this]

/-- A choice changes the claims field of slots only (R26). -/
theorem claimChoice_claims (c : Choice) (s : State) (n : Nat) :
    (claimChoice c s).slot n = { s.slot n with claims := ((claimChoice c s).slot n).claims } := by
  cases c with
  | slot m => exact addClaim_claims m n s
  | black | fill | colour _ | pattern => rfl

/-- Choosing for a source records its choice, claims the slot of `claimFor`, and changes nothing else (R45 to R52). -/
theorem claimSource_eq (w : Nat) (withinFrame : Bool) (s : State) (src : Shown) :
    claimSource w withinFrame s src =
      match s.claimFor withinFrame w src with
      | some n => addClaim n (recordChoice w src (s.choiceFor withinFrame w src) s)
      | none => recordChoice w src (s.choiceFor withinFrame w src) s := by
  unfold claimSource State.claimFor State.choiceFor
  dsimp only
  cases (s.window w).frozen <;> cases src <;> cases s.pin w <;> dsimp only
  all_goals try rfl
  all_goals first
    | rfl
    | (generalize chooseShown _ _ _ _ = c; cases c <;> rfl)
    | (generalize chooseSubstitute _ _ = c; cases c <;> rfl)

/-! ### The time base: omega reads instants after `unfold Ticks at *` -/

/-- A raise of TIMING where the state changes is all that entering a timing state adds (R70). -/
theorem enterTiming_eq (x : Timing) (s : State) : enterTiming x s = { s with
    time := { s.time with timing := x }
    events := if s.time.timing = x then s.events else s.events.raised (.timing x) } := by
  unfold enterTiming
  dsimp only
  split <;> rfl

/-- A period that no lock point measured is a free value within the bands; a measured one stays (log entry 5). -/
theorem ensureMeasured_spec (s : State) : ∃ m, (ensureMeasured s).time.measured = some m
    ∧ ensureMeasured s = { s with time := { s.time with measured := some m, freeUses := (ensureMeasured s).time.freeUses } }
    ∧ (∀ x, s.time.measured = some x → m = x ∧ (ensureMeasured s).time.freeUses = s.time.freeUses)
    ∧ (s.time.measured = none → s.time.rate.shortest ≤ m ∧ m ≤ s.time.rate.longest) := by
  unfold ensureMeasured
  split
  · rename_i x h
    exact ⟨x, h, by rw [← h], fun y hy => ⟨by simp_all, rfl⟩, fun hn => by simp_all⟩
  · rename_i h
    have : s.time.rate.shortest ≤ s.time.rate.longest := by cases s.time.rate <;> decide
    exact ⟨_, rfl, rfl, fun y hy => by simp_all, fun _ =>
      ⟨Nat.le_max_left _ _, Nat.max_le.2 ⟨this, Nat.min_le_left _ _⟩⟩⟩

/-- Everything the time base can do when presence of its lock source changes (R65 to R67). -/
theorem settlePresence_follows (was : Bool) (s : State) :
    TimeFollows was s.time s.events (settlePresence was s) := by
  have tracks : (enterTracking s).lockPresent = s.lockPresent := by
    unfold enterTracking; rw [enterTiming_eq]; rfl
  have holds : (enterHoldover s).lockPresent = s.lockPresent := by
    obtain ⟨m, -, hs, -⟩ := ensureMeasured_spec s
    unfold enterHoldover
    rw [hs, enterTiming_eq]
    rfl
  have present : (settlePresence was s).lockPresent = s.lockPresent := by
    unfold settlePresence
    split
    · exact tracks
    · split
      · exact holds
      · rfl
  refine ⟨fun h1 h2 h3 => ?_, fun h1 h2 h3 => ?_, fun h => ?_⟩
  · rw [present] at h2
    have : settlePresence was s = enterTracking s := by simp [settlePresence, h1, h2, h3]
    rw [this]
    unfold enterTracking
    rw [enterTiming_eq]
    exact ⟨rfl, by simp [State.setTime, h3]⟩
  · rw [present] at h2
    have : settlePresence was s = enterHoldover s := by simp [settlePresence, h1, h2, h3]
    obtain ⟨m, hm, hs, hx, hn⟩ := ensureMeasured_spec s
    have period : (ensureMeasured s).period = m := by simp [State.period, hm]
    rw [this]
    unfold enterHoldover
    dsimp only
    rw [period, enterTiming_eq]
    have e : (ensureMeasured s).events = s.events := by rw [hs]
    have n : (ensureMeasured s).now = s.now := by rw [hs]
    have t : (ensureMeasured s).time
        = { s.time with measured := some m, freeUses := (ensureMeasured s).time.freeUses } := by
      conv => lhs; rw [hs]
    refine ⟨⟨m, hm, ?_, hx, hn⟩, ?_⟩
    · simp only [State.setTime, State.factor, n]
      rw [t]
    · simp only [State.setTime, e]
      rw [t]
      simp [h3]
  · rw [present] at h
    have : settlePresence was s = s := by
      unfold settlePresence
      rcases h with h | ⟨h, h'⟩ | ⟨h, h'⟩
      · cases was <;> simp_all
      · simp [h, h']
      · simp [h, h']
    rw [this]
    exact ⟨rfl, rfl⟩

/-- Everything a lock point can do to the schedule (R66 (1), (2)). -/
theorem meet_taken (a : TimeBase) (t period : Ticks) : LockPointTaken a (a.meet t period) t period := by
  have half : 0 < a.rate.period ∧ a.rate.period ≤ 2 * a.rate.shortest := by cases a.rate <;> decide
  unfold TimeBase.meet
  dsimp only
  cases h : a.nextBoundary with
  | none =>
    dsimp only
    refine ⟨?_, fun _ g => ?_, fun _ g => ?_, fun g => absurd h g, fun g => absurd h g, fun g => absurd h g⟩
    · split
      · rfl
      · simp only
    · rw [if_pos (show a.rate.period ≤ t - a.frameBegan by unfold Ticks at *; omega)]; exact ⟨rfl, rfl⟩
    · rw [if_neg (show ¬a.rate.period ≤ t - a.frameBegan by unfold Ticks at *; omega)]; exact ⟨rfl, rfl⟩
  | some b =>
    dsimp only
    refine ⟨?_, fun g => ?_, fun g => ?_, fun _ g => ?_, fun _ g k => ?_, fun _ g => ?_⟩
    · split
      · rfl
      · split <;> rfl
    · rw [h] at g; cases g
    · rw [h] at g; cases g
    · rw [if_pos (show 2 * (t - a.frameBegan) < a.rate.period by unfold Ticks at *; omega)]; exact ⟨rfl, rfl⟩
    · rw [if_neg (show ¬2 * (t - a.frameBegan) < a.rate.period by unfold Ticks at *; omega),
        if_pos (show t - a.frameBegan < a.rate.shortest by unfold Ticks at *; omega)]
      exact ⟨rfl, rfl⟩
    · rw [if_neg (show ¬2 * (t - a.frameBegan) < a.rate.period by unfold Ticks at *; omega),
        if_neg (show ¬t - a.frameBegan < a.rate.shortest by unfold Ticks at *; omega)]
      exact ⟨rfl, rfl⟩

/-- A lock point changes the time base only, and only while its source is present in TRACKING (R64, R66). -/
theorem lockPoint_eq (period : Ticks) (s : State) : lockPoint period s = { s with
    time := if s.lockPresent = true ∧ s.time.timing = .tracking then s.time.meet s.now period else s.time } := by
  unfold lockPoint
  by_cases h : s.lockPresent = true <;> by_cases h' : s.time.timing = .tracking <;> simp [h, h', State.setTime]

/-- The midway instant after a frame start: this frame's, where its interval gives the counted class 25 or 30; otherwise
an earlier one still to come (R64). -/
theorem midwayAfter_cases {u : Input} {interval : Option Ticks} {start t half : Ticks}
    (h : u.midwayAfter interval start = some (t, half)) :
    (∃ x f, interval = some x ∧ u.counted = some f ∧ rateClass x = some f.rate ∧ (f.rate = .r25 ∨ f.rate = .r30)
        ∧ half = x / 2 ∧ t = start + half)
      ∨ (u.midway = some (t, half) ∧ start ≤ t) := by
  unfold Input.midwayAfter at h
  split at h
  · rename_i m e
    cases h
    left
    obtain ⟨x, rfl, hx⟩ := Option.bind_eq_some_iff.1 e
    unfold Input.midwayOf Input.startClass at hx
    cases hc : u.counted with
    | none => simp [hc] at hx
    | some f =>
      simp only [hc, Option.map_some, Option.filter_some, beq_iff_eq] at hx
      by_cases hr : rateClass x = some f.rate
      · simp only [hr, if_true] at hx
        refine ⟨x, f, rfl, rfl, hr, ?_⟩
        cases hf : f.rate <;> simp [hf] at hx ⊢ <;> obtain ⟨rfl, rfl⟩ := hx <;> exact ⟨rfl, rfl⟩
      · simp [hr] at hx
  · right
    simpa [Option.filter_eq_some_iff] using h

/-- What the settings of R69 (1) coming into force can change; the timing state and the schedule are not among it. -/
theorem applyStaged_eq (r : Rate) (src : LockSource) (s : State) : applyStaged r src s = { s with
    time := { s.time with
      rate := r, source := src, staged := none, measured := (applyStaged r src s).time.measured
      refPresent := (applyStaged r src s).time.refPresent, settled := (applyStaged r src s).time.settled } } := by
  unfold applyStaged
  dsimp only
  split <;> rfl

/-! ### Ports -/

/-- What a change of a port's causes can change. -/
theorem takeCauses_eq (n : Nat) (old p : Port) (s : State) :
    takeCauses n old p s = { s with ports := (takeCauses n old p s).ports, events := (takeCauses n old p s).events } := by
  unfold takeCauses
  split
  · rfl
  all_goals split <;> rfl

/-- A port that is sending a picture and gains a cause enters PROTECTED with a black remainder (R134, R142). -/
theorem takeCauses_enter {n : Nat} {old p : Port} (h : p.state = .starting ∨ p.state = .normal ∨ p.state = .resuming)
    (hc : p.noCause = false) :
    takeCauses n old p s =
      raise (.portProtect n p.causeA p.causeB p.hold) (s.setPort n { p with state := .protected_, showing := .black }) := by
  rcases h with h | h | h <;> simp [takeCauses, h, hc, raiseProtect]

end Sys2Proof.Machine
end

