-- ==== Sys2Proof/Laws/PerInstr.lean ====
section
/-! SUPPORT. The statements made command by command. `RequestLengths`: the frame of a well-formed request has the
payload length that Table 9.5 gives its kind, and a frame of a kind outside that table has none (R146, R151). -/

namespace Sys2Proof.Laws

open Sys2Proof.Machine

/-- The length law of one command. A command that is no request has no frame. -/
def RequestLengths.Statement (i : Instr) : Prop :=
  i.wellFormed = true → ∀ f, requestFrame i = some f →
    f.payload.length ≤ 248 ∧ requestLength f.kind.toNat =
      match i with
      | .unknownKind .. => none
      | _ => some f.payload.length

/-- A frame whose length is known obeys the law. -/
theorem requestLength_of_frame {i : Instr} {f : Frame} (hi : requestFrame i = some f)
    (hu : ∀ t k p, i ≠ .unknownKind t k p) (hl : requestLength f.kind.toNat = some f.payload.length)
    (hb : f.payload.length ≤ 248) : RequestLengths.Statement i := by
  intro _ g hg
  cases hi.symm.trans hg
  refine ⟨hb, hl.trans ?_⟩
  split
  · exact absurd rfl (hu _ _ _)
  · rfl

/-- A command without a frame obeys the law. -/
theorem requestLength_of_none {i : Instr} (hi : requestFrame i = none) : RequestLengths.Statement i := by
  intro _ f hf
  rw [hi] at hf
  cases hf

/-- A kind outside Table 9.5 has no length. -/
theorem requestLength_unlisted {k : Nat} (h : listedKinds.contains k = false) : requestLength k = none := by
  unfold requestLength
  split <;> first | rfl | (revert h; decide)

theorem RequestLengths.inputSetup (tag : Byte) (p : InputSetupFields) : RequestLengths.Statement (.inputSetup tag p) :=
  requestLength_of_frame rfl nofun rfl (Nat.le_of_ble_eq_true rfl)

theorem RequestLengths.inputReset (tag : Byte) (input : Nat) : RequestLengths.Statement (.inputReset tag input) :=
  requestLength_of_frame rfl nofun rfl (Nat.le_of_ble_eq_true rfl)

theorem RequestLengths.inputQuery (tag : Byte) (input clear : Nat) : RequestLengths.Statement (.inputQuery tag input clear) :=
  requestLength_of_frame rfl nofun rfl (Nat.le_of_ble_eq_true rfl)

theorem RequestLengths.stillGrab (tag : Byte) (input still : Nat) : RequestLengths.Statement (.stillGrab tag input still) :=
  requestLength_of_frame rfl nofun rfl (Nat.le_of_ble_eq_true rfl)

theorem RequestLengths.stillDrop (tag : Byte) (still : Nat) : RequestLengths.Statement (.stillDrop tag still) :=
  requestLength_of_frame rfl nofun rfl (Nat.le_of_ble_eq_true rfl)

theorem RequestLengths.storeQuery (tag : Byte) (view input : Nat) : RequestLengths.Statement (.storeQuery tag view input) :=
  requestLength_of_frame rfl nofun rfl (Nat.le_of_ble_eq_true rfl)

theorem RequestLengths.windowBind (tag : Byte) (window scene : Nat) : RequestLengths.Statement (.windowBind tag window scene) :=
  requestLength_of_frame rfl nofun rfl (Nat.le_of_ble_eq_true rfl)

theorem RequestLengths.windowUnbind (tag : Byte) (window : Nat) : RequestLengths.Statement (.windowUnbind tag window) :=
  requestLength_of_frame rfl nofun rfl (Nat.le_of_ble_eq_true rfl)

theorem RequestLengths.windowStage (tag : Byte) (p : WindowStageFields) : RequestLengths.Statement (.windowStage tag p) := by
  intro h f hf
  cases hf
  simp only [Instr.wellFormed, WindowStageFields.fits, Bool.and_eq_true, beq_iff_eq] at h
  have he : (encodeWindowStage p).length = 57 := by
    simp [encodeWindowStage, colourBytes, rectBytes, word, List.length_flatMap, List.map_const', h.1.1.1.1.1.2]
  exact ⟨by simp [he], by simp [he, requestLength]⟩

theorem RequestLengths.windowFreeze (tag : Byte) (window freeze : Nat) : RequestLengths.Statement (.windowFreeze tag window freeze) :=
  requestLength_of_frame rfl nofun rfl (Nat.le_of_ble_eq_true rfl)

theorem RequestLengths.windowQuery (tag : Byte) (window : Nat) : RequestLengths.Statement (.windowQuery tag window) :=
  requestLength_of_frame rfl nofun rfl (Nat.le_of_ble_eq_true rfl)

theorem RequestLengths.sceneStage (tag : Byte) (p : SceneStageFields) : RequestLengths.Statement (.sceneStage tag p) := by
  intro h f hf
  cases hf
  simp only [Instr.wellFormed, SceneStageFields.fits, Bool.and_eq_true, beq_iff_eq] at h
  have he : (encodeSceneStage p).length = 16 := by
    simp [encodeSceneStage, colourBytes, word, h.1.2]
  exact ⟨by simp [he], by simp [he, requestLength]⟩

theorem RequestLengths.sceneTakeFrame (tag : Byte) (scene : Nat) : RequestLengths.Statement (.sceneTakeFrame tag scene) :=
  requestLength_of_frame rfl nofun rfl (Nat.le_of_ble_eq_true rfl)

theorem RequestLengths.sceneTakeNow (tag : Byte) (scene : Nat) : RequestLengths.Statement (.sceneTakeNow tag scene) :=
  requestLength_of_frame rfl nofun rfl (Nat.le_of_ble_eq_true rfl)

theorem RequestLengths.sceneQuery (tag : Byte) (scene : Nat) : RequestLengths.Statement (.sceneQuery tag scene) :=
  requestLength_of_frame rfl nofun rfl (Nat.le_of_ble_eq_true rfl)

theorem RequestLengths.portSetup (tag : Byte) (p : PortSetupFields) : RequestLengths.Statement (.portSetup tag p) :=
  requestLength_of_frame rfl nofun rfl (Nat.le_of_ble_eq_true rfl)

theorem RequestLengths.portAssignFrame (tag : Byte) (port scene : Nat) : RequestLengths.Statement (.portAssignFrame tag port scene) :=
  requestLength_of_frame rfl nofun rfl (Nat.le_of_ble_eq_true rfl)

theorem RequestLengths.portAssignNow (tag : Byte) (port scene : Nat) : RequestLengths.Statement (.portAssignNow tag port scene) :=
  requestLength_of_frame rfl nofun rfl (Nat.le_of_ble_eq_true rfl)

theorem RequestLengths.portHold (tag : Byte) (port : Nat) : RequestLengths.Statement (.portHold tag port) :=
  requestLength_of_frame rfl nofun rfl (Nat.le_of_ble_eq_true rfl)

theorem RequestLengths.portResume (tag : Byte) (port : Nat) : RequestLengths.Statement (.portResume tag port) :=
  requestLength_of_frame rfl nofun rfl (Nat.le_of_ble_eq_true rfl)

theorem RequestLengths.portQuery (tag : Byte) (port : Nat) : RequestLengths.Statement (.portQuery tag port) :=
  requestLength_of_frame rfl nofun rfl (Nat.le_of_ble_eq_true rfl)

theorem RequestLengths.timingSetup (tag : Byte) (rate source input : Nat) : RequestLengths.Statement (.timingSetup tag rate source input) :=
  requestLength_of_frame rfl nofun rfl (Nat.le_of_ble_eq_true rfl)

theorem RequestLengths.eventEnable (tag : Byte) (enables masks : List Nat) : RequestLengths.Statement (.eventEnable tag enables masks) := by
  intro h f hf
  cases hf
  simp only [Instr.wellFormed, Bool.and_eq_true, beq_iff_eq] at h
  have he : (enables.map byte ++ masks.map byte).length = 11 := by simp [h.1.1]
  exact ⟨by simp [he], by simp [he, requestLength]⟩

theorem RequestLengths.eventAck (tag : Byte) (event inst : Nat) : RequestLengths.Statement (.eventAck tag event inst) :=
  requestLength_of_frame rfl nofun rfl (Nat.le_of_ble_eq_true rfl)

theorem RequestLengths.deviceQuery (tag : Byte) (clear : Nat) : RequestLengths.Statement (.deviceQuery tag clear) :=
  requestLength_of_frame rfl nofun rfl (Nat.le_of_ble_eq_true rfl)

theorem RequestLengths.deviceReset (tag : Byte) : RequestLengths.Statement (.deviceReset tag) :=
  requestLength_of_frame rfl nofun rfl (Nat.le_of_ble_eq_true rfl)

theorem RequestLengths.unknownKind (tag kind : Byte) (payload : List Byte) : RequestLengths.Statement (.unknownKind tag kind payload) := by
  intro h f hf
  cases hf
  simp only [Instr.wellFormed, Bool.and_eq_true, Bool.not_eq_true', decide_eq_true_eq] at h
  exact ⟨h.2, requestLength_unlisted h.1⟩

theorem RequestLengths.resetLineAssert : RequestLengths.Statement .resetLineAssert :=
  requestLength_of_none rfl

theorem RequestLengths.resetLineDeassert (t : Ticks) : RequestLengths.Statement (.resetLineDeassert t) :=
  requestLength_of_none rfl

theorem RequestLengths.deviceResetExecute (t : Ticks) : RequestLengths.Statement (.deviceResetExecute t) :=
  requestLength_of_none rfl

theorem RequestLengths.overrideAssert (line : OverrideLine) : RequestLengths.Statement (.overrideAssert line) :=
  requestLength_of_none rfl

theorem RequestLengths.overrideDeassert (line : OverrideLine) : RequestLengths.Statement (.overrideDeassert line) :=
  requestLength_of_none rfl

theorem RequestLengths.frameStart (input : Fin 16) (t : Ticks) (width height : Nat) (progressive : Bool) : RequestLengths.Statement (.frameStart input t width height progressive) :=
  requestLength_of_none rfl

theorem RequestLengths.frameEnd (input : Fin 16) (t : Ticks) (flagged : Bool) (picture : Picture) : RequestLengths.Statement (.frameEnd input t flagged picture) :=
  requestLength_of_none rfl

theorem RequestLengths.lossOfSignal (input : Fin 16) (t : Ticks) : RequestLengths.Statement (.lossOfSignal input t) :=
  requestLength_of_none rfl

theorem RequestLengths.missingFrameTimerExpiry (input : Fin 16) : RequestLengths.Statement (.missingFrameTimerExpiry input) :=
  requestLength_of_none rfl

theorem RequestLengths.stillGrabComplete (input : Fin 16) (t : Ticks) (picture : Picture) : RequestLengths.Statement (.stillGrabComplete input t picture) :=
  requestLength_of_none rfl

theorem RequestLengths.grabTimeout (input : Fin 16) : RequestLengths.Statement (.grabTimeout input) :=
  requestLength_of_none rfl

theorem RequestLengths.inputResetComplete (input : Fin 16) : RequestLengths.Statement (.inputResetComplete input) :=
  requestLength_of_none rfl

theorem RequestLengths.outputFrameBoundary : RequestLengths.Statement .outputFrameBoundary :=
  requestLength_of_none rfl

theorem RequestLengths.outputLineStart : RequestLengths.Statement .outputLineStart :=
  requestLength_of_none rfl

theorem RequestLengths.timingSetupApply : RequestLengths.Statement .timingSetupApply :=
  requestLength_of_none rfl

theorem RequestLengths.sceneTakeApply (scene : Fin 16) : RequestLengths.Statement (.sceneTakeApply scene) :=
  requestLength_of_none rfl

theorem RequestLengths.portAssignComplete (port : Fin 12) : RequestLengths.Statement (.portAssignComplete port) :=
  requestLength_of_none rfl

theorem RequestLengths.freezeOrderOn (window : Fin 64) : RequestLengths.Statement (.freezeOrderOn window) :=
  requestLength_of_none rfl

theorem RequestLengths.freezeOrderOff (window : Fin 64) : RequestLengths.Statement (.freezeOrderOff window) :=
  requestLength_of_none rfl

theorem RequestLengths.deadFramesEnd (window : Fin 64) : RequestLengths.Statement (.deadFramesEnd window) :=
  requestLength_of_none rfl

theorem RequestLengths.mixEnd (window : Fin 64) : RequestLengths.Statement (.mixEnd window) :=
  requestLength_of_none rfl

theorem RequestLengths.tourExpiry (window : Fin 64) : RequestLengths.Statement (.tourExpiry window) :=
  requestLength_of_none rfl

theorem RequestLengths.referencePulse (t : Ticks) : RequestLengths.Statement (.referencePulse t) :=
  requestLength_of_none rfl

theorem RequestLengths.referenceTimeout : RequestLengths.Statement .referenceTimeout :=
  requestLength_of_none rfl

theorem RequestLengths.lockPointMidway (input : Fin 16) : RequestLengths.Statement (.lockPointMidway input) :=
  requestLength_of_none rfl

theorem RequestLengths.holdoverExpiry : RequestLengths.Statement .holdoverExpiry :=
  requestLength_of_none rfl

theorem RequestLengths.byteReceived (t : Ticks) (b : Byte) : RequestLengths.Statement (.byteReceived t b) :=
  requestLength_of_none rfl

theorem RequestLengths.gapTimerExpiry : RequestLengths.Statement .gapTimerExpiry :=
  requestLength_of_none rfl

theorem RequestLengths.transmitStart : RequestLengths.Statement .transmitStart :=
  requestLength_of_none rfl

theorem RequestLengths.transmitComplete (t : Ticks) : RequestLengths.Statement (.transmitComplete t) :=
  requestLength_of_none rfl

end Sys2Proof.Laws
end

