-- ==== Sys2Proof/Tests/Slice0.lean ====
section
/-! SUPPORT. Tests. First the checks of well-formedness, each with a term it refuses; then single commands against the
manual's worked cases; then, for each statement with hypotheses, a state and operands that meet them together. The
expected values come from the manual; the comment over a test names the place. -/

namespace Sys2Proof.Tests

set_option Elab.async false

open Sys2Proof Sys2Proof.Machine

/-! ### Well-formedness: a term that each check refuses -/

/-- Fields that Input Setup accepts: input 15, enabled, with the longest ring. -/
def setup : InputSetupFields := ⟨15, 1, 8, 15, 15, 3, 15, ⟨1023, 1023, 1023⟩⟩

/-- Fields that Window Stage accepts, at the ends of their ranges. -/
def stage : WindowStageFields :=
  { window := 63, source := 4, index := 15, tourCount := 8, entries := List.replicate 8 (1, 15), dwell := 600,
    cropMode := 1, crop := ⟨1919, 1079, 16, 16⟩, dest := ⟨1919, 1079, 1920, 1080⟩, opacity := 65535, border := 15,
    borderColour := ⟨1023, 1023, 1023⟩, fillColour := ⟨0, 0, 0⟩, transition := 2, count := 255, delay := 6 }

/-- Fields that Scene Stage accepts. -/
def sceneFields : SceneStageFields := ⟨15, ⟨1023, 0, 512⟩, 2, [62, 63, 0, 0, 0, 0, 0, 0]⟩

/-- Fields that Port Setup accepts. -/
def portFields : PortSetupFields := ⟨11, 1, 1, 1, 1, 1, 2, 15, 1⟩

theorem test_wellFormed_accepts :
    (Instr.inputSetup 0 setup).wellFormed = true ∧ (Instr.windowStage 0 stage).wellFormed = true
      ∧ (Instr.sceneStage 0 sceneFields).wellFormed = true ∧ (Instr.portSetup 0 portFields).wellFormed = true := by
  decide

theorem test_wellFormed_refuses_long_payloads :
    (Instr.inputSetup 0 { setup with k := 256 }).wellFormed = false
      ∧ (Instr.inputSetup 0 { setup with colour := ⟨0, 65536, 0⟩ }).wellFormed = false
      ∧ (Instr.windowStage 0 { stage with delay := 256 }).wellFormed = false
      ∧ (Instr.windowStage 0 { stage with dwell := 65536 }).wellFormed = false
      ∧ (Instr.windowStage 0 { stage with entries := [(0, 0)] }).wellFormed = false
      ∧ (Instr.windowStage 0 { stage with entries := List.replicate 8 (0, 256) }).wellFormed = false
      ∧ (Instr.windowStage 0 { stage with crop := ⟨0, 0, 65536, 16⟩ }).wellFormed = false
      ∧ (Instr.windowStage 0 { stage with dest := ⟨0, 0, 16, 65536⟩ }).wellFormed = false
      ∧ (Instr.windowStage 0 { stage with borderColour := ⟨65536, 0, 0⟩ }).wellFormed = false
      ∧ (Instr.windowStage 0 { stage with fillColour := ⟨0, 0, 65536⟩ }).wellFormed = false
      ∧ (Instr.sceneStage 0 { sceneFields with windows := [] }).wellFormed = false
      ∧ (Instr.sceneStage 0 { sceneFields with windows := List.replicate 8 256 }).wellFormed = false
      ∧ (Instr.sceneStage 0 { sceneFields with count := 256 }).wellFormed = false
      ∧ (Instr.sceneStage 0 { sceneFields with background := ⟨65536, 0, 0⟩ }).wellFormed = false
      ∧ (Instr.portSetup 0 { portFields with restart := 256 }).wellFormed = false
      ∧ (Instr.eventEnable 0 [1] [0, 0, 0, 0]).wellFormed = false
      ∧ (Instr.eventEnable 0 [0, 0, 0, 0, 0, 0, 0] [0]).wellFormed = false
      ∧ (Instr.eventEnable 0 [0, 0, 0, 0, 0, 0, 256] [0, 0, 0, 0]).wellFormed = false
      ∧ (Instr.eventEnable 0 [0, 0, 0, 0, 0, 0, 0] [0, 0, 0, 256]).wellFormed = false := by
  decide

theorem test_wellFormed_refuses_wide_fields :
    (Instr.inputReset 0 256).wellFormed = false ∧ (Instr.inputQuery 0 0 256).wellFormed = false
      ∧ (Instr.inputQuery 0 256 0).wellFormed = false ∧ (Instr.stillGrab 0 256 0).wellFormed = false
      ∧ (Instr.stillGrab 0 0 256).wellFormed = false ∧ (Instr.stillDrop 0 256).wellFormed = false
      ∧ (Instr.storeQuery 0 256 0).wellFormed = false ∧ (Instr.storeQuery 0 0 256).wellFormed = false
      ∧ (Instr.windowBind 0 256 0).wellFormed = false ∧ (Instr.windowBind 0 0 256).wellFormed = false
      ∧ (Instr.windowUnbind 0 256).wellFormed = false ∧ (Instr.windowFreeze 0 256 0).wellFormed = false
      ∧ (Instr.windowFreeze 0 0 256).wellFormed = false ∧ (Instr.windowQuery 0 256).wellFormed = false
      ∧ (Instr.sceneTakeFrame 0 256).wellFormed = false ∧ (Instr.sceneTakeNow 0 256).wellFormed = false
      ∧ (Instr.sceneQuery 0 256).wellFormed = false ∧ (Instr.portAssignFrame 0 256 0).wellFormed = false
      ∧ (Instr.portAssignFrame 0 0 256).wellFormed = false ∧ (Instr.portAssignNow 0 256 0).wellFormed = false
      ∧ (Instr.portAssignNow 0 0 256).wellFormed = false ∧ (Instr.portHold 0 256).wellFormed = false
      ∧ (Instr.portResume 0 256).wellFormed = false ∧ (Instr.portQuery 0 256).wellFormed = false
      ∧ (Instr.timingSetup 0 256 0 0).wellFormed = false ∧ (Instr.timingSetup 0 0 256 0).wellFormed = false
      ∧ (Instr.timingSetup 0 0 0 256).wellFormed = false ∧ (Instr.eventAck 0 256 0).wellFormed = false
      ∧ (Instr.eventAck 0 0 256).wellFormed = false ∧ (Instr.deviceQuery 0 256).wellFormed = false := by
  decide

theorem test_wellFormed_refuses_foreign_frames :
    (Instr.unknownKind 0 0x10 []).wellFormed = false
      ∧ (Instr.unknownKind 0 0x80 (List.replicate 249 0)).wellFormed = false
      ∧ (Instr.frameStart 0 0 65536 0 true).wellFormed = false ∧ (Instr.frameStart 0 0 0 65536 true).wellFormed = false
      ∧ (Instr.frameEnd 0 0 false [(5, ⟨1, 1, 1⟩), (5, ⟨2, 2, 2⟩)]).wellFormed = false
      ∧ (Instr.frameEnd 0 0 false [(1920 * 1080, ⟨1, 1, 1⟩)]).wellFormed = false
      ∧ (Instr.frameEnd 0 0 false [(0, ⟨64, 512, 512⟩)]).wellFormed = false
      ∧ (Instr.stillGrabComplete 0 0 [(0, ⟨1024, 0, 0⟩)]).wellFormed = false := by
  decide +kernel

/-! ### States to test on -/

/-- The state that a command leaves. -/
def after (c : Instr) (s : State) : State :=
  match exec c s with
  | .next t => t
  | .fault _ | .refused _ => s

/-- The part after reset with commands waiting. -/
def resetWith (cs : List Instr) : State := { State.reset with pending := cs }

/-- 1920 × 1080 progressive at class 60. -/
def hd : Format := ⟨1920, 1080, .r60, true⟩

/-- A unit LOCKED on `hd` with a stored frame in progress. -/
def lockedInput : Input :=
  { Input.reset with
    state := .locked, counted := some hd, timer := some 6750000, lastStart := some 0, ringLength := 4
    frame := some ⟨1920, 1080, some .r60, true, true⟩ }

/-- A window bound to scene 15, frozen on input 15. -/
def frozenWindow : Window :=
  { Window.reset with
    binding := some 15, staged := { WindowConfig.reset with source := .plain (.input 15) }
    live := { WindowConfig.reset with source := .plain (.input 15) }, shown := .input 15, frozen := true }

/-- A window bound to scene 15 whose tour of input 0 and still 15 is about to expire. -/
def touringWindow : Window :=
  { Window.reset with
    binding := some 15
    staged := { WindowConfig.reset with source := .tour, tourList := [.input 0, .still 15] }
    live := { WindowConfig.reset with source := .tour, tourList := [.input 0, .still 15] }
    shown := .input 0, tourRemaining := 1, tourPeriod := 600 }

/-- A port protected by OVERRIDE A. -/
def protectedPort : Port :=
  { Port.reset with state := .protected_, enable := true, protectA := true, causeA := true }

/-- A part in use. Input 15 is LOCKED with the ring 92 to 95: 92 pinned by window 63, 93 the newest frame, 94 STALE, 95
FILLING. Still entry 15 holds slot 0, a grab of input 15 into entry 14 holds slot 1 in reserve, and slot 2 is RETIRING.
Scene 15 shows windows 62 and 63 on port 0; port 11 is protected by OVERRIDE A. -/
def busy : State :=
  { State.reset with
    inputs := put State.reset.inputs 15 lockedInput
    slots := put (put (put (put (put (put (put State.reset.slots
      92 ⟨.complete, .input 15, 7, some hd, 0, some 63, []⟩)
      93 ⟨.complete, .input 15, 8, some hd, 1, none, []⟩)
      94 ⟨.stale, .input 15, 6, some hd, 0, none, []⟩)
      95 ⟨.filling, .input 15, 0, none, 0, none, []⟩)
      0 ⟨.still, .still 15, 3, some hd, 0, none, [(0, ⟨400, 500, 600⟩)]⟩)
      1 ⟨.empty, .grab 15, 0, none, 0, none, []⟩)
      2 ⟨.retiring, .none, 2, some hd, 1, none, []⟩
    rings := put State.reset.rings 15 ⟨[92, 93, 94, 95], [93], 0⟩
    stills := put State.reset.stills 15 (some 0)
    reservations := put State.reset.reservations 15 (some 1)
    pins := put State.reset.pins 63 (some 92)
    scenes := put State.reset.scenes 15 { Scene.reset with stagedList := [62, 63], liveList := [62, 63] }
    windows := put (put State.reset.windows 63 frozenWindow) 62 touringWindow
    comp := { Compositor.reset with composed := [15], record := [⟨63, .input 15, .slot 92⟩] }
    ports := put (put State.reset.ports 11 protectedPort) 0
      { Port.reset with state := .normal, enable := true, assigned := some 15, showing := .scene 15 }
    link := { Link.reset with table := [⟨7, .grab 15 14 120⟩], reserved := 1 }
    overrideA := true }

/-- The part in use with a boundary waiting. -/
def busyAtBoundary : State := { busy with pending := [.outputFrameBoundary] }

theorem ready_reset : State.reset.Ready := ⟨rfl, rfl, rfl, by decide⟩
theorem ready_busy : busy.Ready := ⟨rfl, rfl, rfl, by decide⟩

/-! ### The invariants hold of the part in use -/

theorem test_busy_linkBounded : LinkBounded busyAtBoundary :=
  ⟨by decide, by decide, by decide, by decide, by decide, by decide, by decide, by decide +kernel⟩

theorem test_busy_pendingSetOrdered : PendingSetOrdered busyAtBoundary :=
  ⟨by decide, by decide, by decide, by decide, by decide⟩

theorem test_busy_portsFollowLines : PortCausesFollowLines busyAtBoundary := by
  refine ⟨fun p hp => ?_, nofun⟩
  have key : ∀ p, p < 12 → (((busy.port p).enable = true ↔ (busy.port p).state ≠ .disabled)
      ∧ ((busy.port p).state = .disabled → (busy.port p).noCause = true)
      ∧ ((busy.port p).state ≠ .disabled → (busy.port p).causeA = ((busy.port p).protectA && busy.overrideA))
      ∧ ((busy.port p).state ≠ .disabled → (busy.port p).causeB = ((busy.port p).protectB && busy.overrideB))
      ∧ ((busy.port p).state ≠ .protected_ → (busy.port p).noCause = true)
      ∧ ((busy.port p).state = .protected_ → (busy.port p).auto = true → (busy.port p).noCause = false)) := by decide +kernel
  obtain ⟨a, b, c, d, e, f⟩ := key p hp
  exact ⟨a, b, c, d, e, f⟩

theorem test_busy_inputsSound : InputsSound busyAtBoundary := by
  intro i hi
  have key : ∀ i, i < 16 → busy.input i = Input.reset ∨ busy.input i = lockedInput := by decide +kernel
  have : busyAtBoundary.input i = busy.input i := rfl
  rw [this]
  rcases key i hi with h | h <;> rw [h]
  · exact ⟨by decide, by decide, by decide, by decide, by decide, by decide, nofun⟩
  · exact ⟨by decide, by decide, by decide, by decide, by decide, by decide, nofun⟩

/-- A unit of class 25 with a midway instant to come is sound, LOCKED or SUSPECT. -/
theorem test_midway_inputSound : ∀ x ∈ [(InputState.locked, 0), (.suspect, 1)], InputSound { lockedInput with
    state := x.1, count := x.2, counted := some ⟨1920, 1080, .r25, true⟩, midway := some (6750000, 2700000) } := by
  intro x hx
  refine ⟨?_, ?_, ?_, ?_, ?_, ?_, ?_⟩
  any_goals revert x; decide
  intro t half h
  cases h
  exact ⟨_, rfl, .inl (by decide)⟩

/-- The time base in HOLDOVER at its longest. -/
def holding : State :=
  { resetWith [.outputFrameBoundary] with
    time := { TimeBase.reset 0 0 with source := .reference, timing := .holdover, measured := some 2250000, holdover := 600 } }

/-- The part in use TRACKING input 15, while alignment waits for a lock point. -/
def aligning : State :=
  { busyAtBoundary with
    time := { TimeBase.reset 0 0 with source := .input 15, timing := .tracking, nextBoundary := none } }

/-- The time base TRACKING a reference at rate 60 whose last pulse fell at 0 (4.9). -/
def tracking : State :=
  { State.reset with
    time := { TimeBase.reset 0 0 with
      source := .reference, timing := .tracking, measured := some 2250000, refPresent := true
      reference := some ⟨0, some 2250000⟩ } }

/-- HOLDOVER at its longest, TRACKING while alignment waits, TRACKING with a measured period, and FREE_RUN. -/
theorem test_timingSound :
    TimingSound holding ∧ TimingSound aligning ∧ TimingSound tracking ∧ TimingSound busyAtBoundary := by
  refine ⟨?_, ?_, ?_, ?_⟩
  · refine ⟨by decide, by decide, by decide, by decide +kernel, nofun, by decide, ?_, by decide, by decide, by decide, ?_⟩
    · rintro m ⟨⟩; decide
    · rintro - b ⟨⟩; decide
  · exact ⟨by decide, by decide, by decide, by decide +kernel, nofun, by decide, nofun, by decide, by decide, by decide, nofun⟩
  · refine ⟨by decide, by decide, by decide, by decide +kernel, ?_, by decide, ?_, by decide, by decide, by decide, ?_⟩
    · intro _; exact ⟨_, _, rfl, rfl, by decide⟩
    · rintro m ⟨⟩; decide
    · rintro - b ⟨⟩; decide
  · refine ⟨by decide, by decide, by decide, by decide, nofun, by decide, nofun, by decide, by decide, by decide, ?_⟩
    rintro - b ⟨⟩; decide

theorem busy_window (w : Nat) (h : w < 64) :
    busy.window w = Window.reset ∨ busy.window w = frozenWindow ∨ busy.window w = touringWindow := by
  revert w
  decide +kernel

/-- A copy that cuts and holds its numbers in their ranges. -/
theorem soundConfig (c : WindowConfig)
    (h : (c.source = .tour → 1 ≤ c.tourList.length ∧ c.tourList.length ≤ 8) ∧ (1 ≤ c.dwell ∧ c.dwell ≤ 600)
      ∧ c.opacity ≤ 256 ∧ c.border ≤ 15 ∧ c.delay ≤ 6 ∧ c.transition = .cut) : ConfigSound c := by
  obtain ⟨a, b, c', d, e, f⟩ := h
  exact ⟨a, b, c', d, e, by rw [f]; nofun, by rw [f]; nofun⟩

theorem test_busy_sceneTablesSound : SceneTablesSound busyAtBoundary := by
  refine ⟨?_, ?_, fun w hw => ?_, fun w hw => ?_, ?_, ?_, ?_⟩
  · show ∀ k, k < 16 → (busy.scene k).stagedList.length ≤ 8 ∧ (busy.scene k).stagedList.Nodup
      ∧ ∀ w ∈ (busy.scene k).stagedList, w < 64 ∧ (busy.window w).binding = some k
    decide +kernel
  · show ∀ k, k < 16 → (busy.scene k).liveList.length ≤ 8 ∧ (busy.scene k).liveList.Nodup
      ∧ ∀ w ∈ (busy.scene k).liveList, w < 64 ∧ (busy.window w).binding = some k
    decide +kernel
  · have key := busy_window w hw
    show ConfigSound (busy.window w).staged ∧ ConfigSound (busy.window w).live
    rcases key with h | h | h <;> rw [h] <;> exact ⟨soundConfig _ (by decide), soundConfig _ (by decide)⟩
  · have key := busy_window w hw
    show TransSound (busy.window w).trans
    rcases key with h | h | h <;> rw [h] <;> exact ⟨nofun, nofun⟩
  · show ∀ w, w < 64 → busy.inLive w = false →
      (busy.window w).trans = .none ∧ (busy.window w).tourRemaining = 0 ∧ (busy.window w).frozen = false
    decide +kernel
  · show ∀ w, w < 64 → (busy.window w).frozen = true → (busy.window w).trans = .none
    decide +kernel
  · show ∀ w, w < 64 → (busy.window w).binding = none → busy.window w = Window.reset
    decide +kernel

/-- A bank of optional numbers holds none outside its places. -/
theorem bank_inside {n : Nat} {v : Vector (Option Nat) n} {P : Nat → Nat → Prop}
    (h : ∀ i, i < n → ∀ m ∈ look v i none, P i m) (i m : Nat) (e : look v i none = some m) : P i m := by
  by_cases hi : i < n
  · exact h i hi m (by simp [e])
  · rw [look_outside v none (by omega)] at e; cases e

theorem test_busy_storeSound : StoreSound busyAtBoundary := by
  refine ⟨fun n hn => ?_, ?_, fun e n h => ?_, fun i n h => ?_, ?_, ?_, ?_, ?_, ?_, fun i hi n hn h => ?_, ?_, ?_, ?_,
    ?_, fun w n h => ?_, fun n hn w h => ?_, ?_, fun i => ?_, fun i h => ?_, fun _ i h => ?_⟩
  · have key : ∀ n, n < 96 →
        ((busy.slot n).owner = .none ∧ ((busy.slot n).state = .free ∨ (busy.slot n).state = .retiring))
        ∨ ((busy.slot n).owner = .input 15 ∧ n ∈ (busy.ring 15).slots ∧ ((busy.slot n).state = .empty
          ∨ (busy.slot n).state = .filling ∨ (busy.slot n).state = .complete ∨ (busy.slot n).state = .stale))
        ∨ ((busy.slot n).owner = .still 15 ∧ busy.still 15 = some n ∧ (busy.slot n).state = .still)
        ∨ ((busy.slot n).owner = .grab 15 ∧ busy.reservation 15 = some n ∧ (busy.slot n).state = .empty) := by decide +kernel
    show SlotPlaced busy n
    unfold SlotPlaced
    rcases key n hn with ⟨h, h'⟩ | ⟨h, h'⟩ | ⟨h, h'⟩ | ⟨h, h'⟩ <;> rw [h]
    · exact h'
    · exact ⟨by decide, h'⟩
    · exact ⟨by decide, h'⟩
    · exact ⟨by decide, h'⟩
  · show ∀ i, i < 16 → (busy.ring i).slots.Nodup
      ∧ ∀ n ∈ (busy.ring i).slots, n < 96 ∧ (busy.slot n).owner = .input i
    decide +kernel
  · exact bank_inside (v := busy.stills) (P := fun e n => n < 96 ∧ (busy.slot n).owner = .still e) (by decide +kernel) e n h
  · exact bank_inside (v := busy.reservations) (P := fun i n => n < 96 ∧ (busy.slot n).owner = .grab i)
      (by decide +kernel) i n h
  · show ∀ i, i < 16 → ((busy.input i).state = .off ↔ (busy.ring i).slots = [])
    decide +kernel
  · show ∀ i, i < 16 → (busy.ring i).slots ≠ [] → 3 ≤ (busy.ring i).slots.length ∧ (busy.ring i).slots.length ≤ 8
    decide +kernel
  · show ∀ n, n < 96 → (busy.slot n).claims ≠ 0 ∨ (busy.slot n).pinned.isSome = true →
      (busy.slot n).state ≠ .free ∧ (busy.slot n).state ≠ .empty ∧ (busy.slot n).state ≠ .filling
    decide +kernel
  · show ∀ n, n < 96 → (busy.slot n).claims ≤ 32
    decide +kernel
  · have key : ∀ i, i < 16 → ∀ m ∈ (busy.ring i).slots, ∀ n ∈ (busy.ring i).slots,
        (busy.slot m).state = .filling → (busy.slot n).state = .filling → m = n := by decide +kernel
    exact fun i hi m n hm hn => key i hi m hm n hn
  · have key : ∀ i, i < 16 → ∀ n ∈ (busy.ring i).slots, (busy.slot n).state = .filling →
        (busy.input i).frame = lockedInput.frame := by decide +kernel
    exact ⟨_, key i hi n hn h, rfl⟩
  · show ∀ i, i < 16 → (busy.ring i).age.Nodup ∧ ∀ n ∈ (busy.ring i).age,
      n ∈ (busy.ring i).slots ∧ (busy.slot n).state = .complete ∧ (busy.slot n).pinned = none
    decide +kernel
  · show ∀ i, i < 16 → (busy.ring i).fresh ≤ (busy.ring i).age.length
    decide +kernel
  · show ∀ i, i < 16 → ∀ n ∈ (busy.ring i).slots, (busy.slot n).state = .complete → (busy.slot n).pinned = none →
      n ∈ (busy.ring i).age
    decide +kernel
  · show ∀ i, i < 16 → (busy.ring i).slots ≠ [] → 3 ≤ busy.unpinned i
    decide +kernel
  · have key : w = 63 ∧ n = 92 :=
      bank_inside (v := busy.pins) (P := fun w n => w = 63 ∧ n = 92) (by decide +kernel) w n h
    obtain ⟨rfl, rfl⟩ := key
    exact ⟨by decide, by decide +kernel, by decide +kernel, by decide +kernel, 15, by decide +kernel, by decide +kernel⟩
  · have key : ∀ n, n < 96 → ∀ w ∈ (busy.slot n).pinned, busy.pin w = some n := by decide +kernel
    exact key n hn w (show (busy.slot n).pinned = some w from h)
  · intro e he i d left h
    have he : e ∈ busy.link.table := he
    simp [busy] at he
    subst he
    cases h
    decide +kernel
  · show (busy.link.table.filter fun e => e.target.isGrabOf i).length ≤ 1
    exact Nat.le_trans (List.length_filter_le _ _) (by decide)
  · have : i = 15 := by
      have h : busy.hasPending (·.isGrabOf i) = true := h
      simp [State.hasPending, busy, PendingTarget.isGrabOf] at h
      omega
    subst this
    decide +kernel
  · have h : (busy.reservation i).isSome = true := h
    obtain ⟨m, hm⟩ := Option.isSome_iff_exists.1 h
    have : i = 15 := bank_inside (v := busy.reservations) (P := fun i _ => i = 15) (by decide +kernel) i m hm
    subst this
    decide +kernel

theorem test_busy_storedFramesSound : StoredFramesSound busyAtBoundary := by
  refine ⟨fun n hn f h => ?_, fun i hi h => ?_, ?_⟩
  · have key : ∀ n, n < 96 → ∀ f ∈ (busy.slot n).format, f.supported = true := by decide +kernel
    exact key n hn f (show (busy.slot n).format = some f from h)
  · have key : ∀ i, i < 16 → ((busy.input i).state = .locked ∨ (busy.input i).state = .suspect) →
        (busy.input i).counted = some hd := by decide +kernel
    exact ⟨hd, key i hi h, by decide⟩
  · show ∀ n, n < 96 → (busy.slot n).picture.canonical = true
    decide +kernel

theorem test_busy_coloursInRange : ColoursInRange busyAtBoundary := by
  refine ⟨fun n => ?_, fun i => ?_, ?_, fun k => ?_, fun w => ?_⟩
  · show (busy.slot n).picture.all (fun x => x.2.inRange) = true
    by_cases h : n < 96
    · revert n; decide +kernel
    · rw [show busy.slot n = Slot.reset from look_outside _ _ (by omega)]; rfl
  · show (busy.input i).substColour.inRange = true
    by_cases h : i < 16
    · revert i; decide +kernel
    · rw [show busy.input i = Input.reset from look_outside _ _ (by omega)]; rfl
  · intro e h c hc
    have h : e ∈ busy.comp.record := h
    simp [busy] at h
    subst h
    cases hc
  · show (busy.scene k).stagedBackground.inRange = true ∧ (busy.scene k).liveBackground.inRange = true
    by_cases h : k < 16
    · revert k; decide +kernel
    · rw [show busy.scene k = Scene.reset from look_outside _ _ (by omega)]; exact ⟨rfl, rfl⟩
  · show (busy.window w).staged.coloursInRange ∧ (busy.window w).live.coloursInRange
    by_cases h : w < 64
    · rcases busy_window w h with h | h | h <;> rw [h] <;> exact ⟨⟨rfl, rfl⟩, rfl, rfl⟩
    · rw [show busy.window w = Window.reset from look_outside _ _ (by omega)]; exact ⟨⟨rfl, rfl⟩, rfl, rfl⟩

/-! ### Worked cases of the manual -/

/-- 7.8.1: the steps, the taps of inner column 7 and of the last one, and the values through the depth of port 0. -/
theorem test_scaled_inset :
    stepOf 1280 960 = 87381 ∧ stepOf 720 540 = 87381 ∧ tapsOf 0 1280 87381 7 = (9, 10, 5)
      ∧ tapsOf 0 1280 87381 959 = (1278, 1279, 10) ∧ lerp 5 400 720 = 500 ∧ lerp 5 480 640 = 530
      ∧ lerp 5 500 530 = 509 ∧ blend 192 509 100 = 407 ∧ applyDepth false 407 = 102 ∧ applyDepth true 407 = 407 := by
  decide

/-- 7.8.2 and 7.8.3: a window cut by the raster's edge, and both clamps of the step. -/
theorem test_step_clamps :
    stepOf 1280 400 = 209715 ∧ tapsOf 0 1280 209715 119 = (380, 381, 12)
      ∧ stepOf 100 1000 = 8192 ∧ tapsOf 0 100 8192 784 = (98, 99, 0) ∧ tapsOf 0 100 8192 792 = (99, 99, 0)
      ∧ stepOf 1920 200 = 524288 ∧ tapsOf 0 1920 524288 199 = (1592, 1593, 0) := by
  decide

/-- 7.8.4: a crop against a small still. -/
theorem test_effective_crop :
    effectiveCrop (.rect ⟨1200, 600, 400, 300⟩) 1280 720 = ⟨1200, 600, 80, 120⟩
      ∧ effectiveCrop (.rect ⟨1300, 600, 400, 300⟩) 1280 720 = ⟨0, 0, 1280, 720⟩
      ∧ effectiveCrop (.rect ⟨1300, 600, 400, 300⟩) 1920 1080 = ⟨1300, 600, 400, 300⟩ := by
  decide

/-- 7.8.5 and 7.8.6: the opacity limits, a window that is all border, and the steps of a MIX of three. -/
theorem test_blends :
    blend 128 900 64 = 482 ∧ blend 0 900 64 = 64 ∧ blend 256 900 64 = 900
      ∧ innerAt ⟨100, 100, 400, 300⟩ 4 102 150 = none ∧ innerAt ⟨100, 100, 28, 300⟩ 15 114 150 = none
      ∧ innerAt ⟨100, 100, 400, 300⟩ 4 104 104 = some (0, 0)
      ∧ (mixWeight 1 3, mixWeight 2 3, mixWeight 3 3) = (85, 171, 256)
      ∧ (blend 85 800 200, blend 171 800 200, blend 256 800 200) = (399, 601, 800) := by
  decide

/-- 7.8.7: the bars at an inner width of 100 change at these columns; the first and the last bar are those of Table
7.4. -/
theorem test_bars :
    ([0, 12, 13, 24, 25, 37, 38, 49, 50, 62, 63, 74, 75, 87, 88, 99].map fun i => 8 * i / 100)
        = [0, 0, 1, 1, 2, 2, 3, 3, 4, 4, 5, 5, 6, 6, 7, 7]
      ∧ barColour 0 = ⟨721, 512, 512⟩ ∧ barColour 7 = ⟨64, 512, 512⟩ := by
  decide

/-- Table 7.5: conversion at the extremes, in the order of its four columns, for the luma and one chroma value. -/
theorem test_port_conversion :
    let ports := [{ Port.reset with full := true }, { Port.reset with full := true, depth10 := false }, Port.reset,
      { Port.reset with depth10 := false }]
    (ports.map fun p => (convert p ⟨0, 30, 30⟩)) = [⟨0, 30, 30⟩, ⟨0, 8, 8⟩, ⟨64, 64, 64⟩, ⟨16, 16, 16⟩]
      ∧ (ports.map fun p => (convert p ⟨2, 512, 512⟩)) = [⟨2, 512, 512⟩, ⟨1, 128, 128⟩, ⟨64, 512, 512⟩, ⟨16, 128, 128⟩]
      ∧ (ports.map fun p => (convert p ⟨1022, 1000, 1000⟩))
        = [⟨1022, 1000, 1000⟩, ⟨255, 250, 250⟩, ⟨940, 960, 960⟩, ⟨235, 240, 240⟩] := by
  decide

/-- Table 1.2: the inclusive bounds of class 60 and of class 25, and the gap between 50 and 60. -/
theorem test_rate_classes :
    [rateClass 2227500, rateClass 2274750, rateClass 2227499, rateClass 2274751, rateClass 5346000, rateClass 5454000,
      rateClass 5454001, rateClass 2500000] = [some .r60, some .r60, none, none, some .r25, some .r25, none, none] := by
  decide

/-- Input 5 of Table 1.6, QUALIFYING with a count of 2, with frame d in progress in slot 20 of its ring. -/
def qualifying : State :=
  { State.reset with
    inputs := put State.reset.inputs 5 { Input.reset with
      state := .qualifying, counted := some ⟨1920, 1080, .r50, true⟩, count := 2, k := 3, l := 2, ringLength := 3
      timer := some 6750000, lastStart := some 0, frame := some ⟨1920, 1080, some .r50, true, true⟩ }
    rings := put State.reset.rings 5 ⟨[20, 21, 22], [], 0⟩
    slots := put State.reset.slots 20 ⟨.filling, .input 5, 0, none, 0, none, []⟩ }

/-- Table 1.6, step 5: frame d locks the input and is stored with sequence 1. -/
theorem test_frame_end_locks :
    let t := after (.frameEnd 5 2700000 false [(0, ⟨400, 500, 600⟩)]) qualifying
    (t.input 5).state = .locked ∧ (t.input 5).count = 0 ∧ (t.input 5).sequence = 1 ∧ (t.input 5).framesStored = 1
      ∧ (t.slot 20).state = .complete ∧ (t.slot 20).sequence = 1 ∧ (t.slot 20).picture = [(0, ⟨400, 500, 600⟩)]
      ∧ (t.ring 5).age = [20]
      ∧ t.events.entries.map (·.event) = [.restart .line, .inputState 5 .locked (some ⟨1920, 1080, .r50, true⟩)] := by
  decide +kernel

/-- R44: flagged errors make the same frame a bad end, and the input, QUALIFYING, returns to SEARCHING (R9). -/
theorem test_flagged_frame_empties_the_slot :
    let t := after (.frameEnd 5 2700000 true []) qualifying
    (t.input 5).state = .searching ∧ (t.input 5).framesBad = 1 ∧ (t.input 5).lockLosses = 0
      ∧ (t.slot 20).state = .empty ∧ (t.ring 5).age = [] := by
  decide +kernel

/-- Table 1.6, step 8: the expiry of the timer loses lock, with INPUT LOST before INPUT STATE by level. -/
theorem test_expiry_loses_lock :
    let s := { State.reset with
      inputs := put State.reset.inputs 5 { Input.reset with
        state := .suspect, counted := some ⟨1920, 1080, .r50, true⟩, count := 1, k := 3, l := 2, framesBad := 1
        timer := some 6750000, lastStart := some 0 } }
    let t := after (.missingFrameTimerExpiry 5) s
    (t.input 5).state = .searching ∧ (t.input 5).framesBad = 2 ∧ (t.input 5).lockLosses = 1 ∧ (t.input 5).timer = none
      ∧ t.events.entries.map (·.event) = [.restart .line, .inputLost 5 1, .inputState 5 .searching none] := by
  decide +kernel

/-- 2.9: input 3 with the ring 20 to 23, slot 40 in still entry 5, the grab accepted and slot 20 FILLING. -/
def swapping : State :=
  { State.reset with
    inputs := put State.reset.inputs 3 { Input.reset with
      state := .locked, counted := some ⟨1920, 1080, .r50, true⟩, sequence := 43, timer := some 6750000
      lastStart := some 0, ringLength := 4, frame := some ⟨1920, 1080, some .r50, true, true⟩ }
    rings := put State.reset.rings 3 ⟨[20, 21, 22, 23], [23, 22, 21], 0⟩
    slots := put (put (put (put (put (put State.reset.slots
      20 ⟨.filling, .input 3, 0, none, 0, none, []⟩)
      21 ⟨.complete, .input 3, 41, some ⟨1920, 1080, .r50, true⟩, 0, none, []⟩)
      22 ⟨.complete, .input 3, 42, some ⟨1920, 1080, .r50, true⟩, 1, none, []⟩)
      23 ⟨.complete, .input 3, 43, some ⟨1920, 1080, .r50, true⟩, 1, none, []⟩)
      40 ⟨.still, .still 5, 17, some ⟨1920, 1080, .r50, true⟩, 0, none, []⟩)
      0 ⟨.empty, .grab 3, 0, none, 0, none, []⟩
    stills := put State.reset.stills 5 (some 40)
    reservations := put State.reset.reservations 3 (some 0)
    link := { Link.reset with table := [⟨0x21, .grab 3 5 119⟩], reserved := 1 } }

/-- 2.9, step 3: the grab completes by swap; the age list is as before the frame, and DONE is queued. -/
theorem test_grab_swaps :
    let t := after (.stillGrabComplete 3 2700000 []) swapping
    (t.ring 3).slots = [0, 21, 22, 23] ∧ (t.ring 3).age = [23, 22, 21] ∧ (t.ring 3).fresh = 0 ∧ t.still 5 = some 20
      ∧ (t.slot 20).sequence = 44 ∧ (t.slot 40).state = .retiring ∧ t.reservation 3 = none
      ∧ t.link.replies = [⟨0x21, 0x18, .done, []⟩] ∧ t.freeSlots.length = 90 := by
  decide +kernel

/-- 2.9, step 5: the former reservation, EMPTY at position 0, is written first. -/
theorem test_frame_start_takes_the_empty_slot :
    let s := after (.stillGrabComplete 3 2700000 []) swapping
    s.writeSlot 3 = some 0 := by
  decide +kernel

/-- 2.10: disabling an input in use. Slots 31 (pinned) and 33 (claimed) retire, the rest and the reservation are
free. -/
theorem test_disable_releases :
    let f := some ⟨1920, 1080, RateClass.r50, true⟩
    let s := { State.reset with
      inputs := put State.reset.inputs 7 { lockedInput with ringLength := 5 }
      rings := put State.reset.rings 7 ⟨[30, 31, 32, 33, 34], [33, 30], 0⟩
      slots := put (put (put (put (put (put State.reset.slots
        30 ⟨.complete, .input 7, 1, f, 0, none, []⟩)
        31 ⟨.complete, .input 7, 2, f, 0, some 12, []⟩)
        32 ⟨.stale, .input 7, 3, f, 0, none, []⟩)
        33 ⟨.complete, .input 7, 4, f, 1, none, []⟩)
        34 ⟨.filling, .input 7, 0, none, 0, none, []⟩)
        6 ⟨.empty, .grab 7, 0, none, 0, none, []⟩
      pins := put State.reset.pins 12 (some 31)
      windows := put State.reset.windows 12 { frozenWindow with shown := .input 7 }
      reservations := put State.reset.reservations 7 (some 6)
      link := { Link.reset with table := [⟨9, .grab 7 2 100⟩], reserved := 1 } }
    let t := after (.inputSetup 1 { setup with input := 7, enable := 0, ring := 5 }) s
    [30, 31, 32, 33, 34, 6].map (fun n => (t.slot n).state) = [.free, .retiring, .free, .retiring, .free, .free]
      ∧ (t.window 12).frozen = false ∧ t.pin 12 = none
      ∧ t.link.replies = [⟨9, 0x18, .aborted, []⟩, ⟨1, 0x10, .done, []⟩] := by
  decide +kernel

/-- 3.8, step 5′ with the order carried out: window 0 pins slot 20, which leaves the age list, and M′ falls to 3. -/
theorem test_freeze_pins_rank_zero :
    let f := some ⟨1920, 1080, RateClass.r50, true⟩
    let s := { State.reset with
      inputs := put State.reset.inputs 3 { lockedInput with counted := f }
      rings := put State.reset.rings 3 ⟨[20, 21, 22, 23], [20, 23, 22, 21], 0⟩
      slots := put (put (put (put State.reset.slots
        20 ⟨.complete, .input 3, 44, f, 0, none, []⟩)
        21 ⟨.complete, .input 3, 41, f, 0, none, []⟩)
        22 ⟨.complete, .input 3, 42, f, 0, none, []⟩)
        23 ⟨.complete, .input 3, 43, f, 0, none, []⟩
      scenes := put State.reset.scenes 0 { Scene.reset with liveList := [0] }
      windows := put State.reset.windows 0 { Window.reset with
        binding := some 0, live := { WindowConfig.reset with source := .plain (.input 3) }, shown := .input 3
        freezeOrder := .on }
      comp := { Compositor.reset with composed := [0] } }
    let t := after (.freezeOrderOn 0) s
    t.pin 0 = some 20 ∧ (t.slot 20).pinned = some 0 ∧ (t.slot 20).claims = 1 ∧ (t.ring 3).age = [23, 22, 21]
      ∧ t.unpinned 3 = 3 ∧ (t.window 0).frozen = true ∧ (t.window 0).freezeOrder = .none := by
  decide +kernel

/-- R51 and log entry 36: freezes of one boundary share a slot; commanded alone, each finds the age list that the one
before it has left. -/
theorem test_freezes_commanded_alone_do_not_share :
    let f := some ⟨1920, 1080, RateClass.r50, true⟩
    let x := { Window.reset with
      binding := some 0, live := { WindowConfig.reset with source := .plain (.input 3) }, shown := .input 3
      freezeOrder := .on }
    let s := { State.reset with
      inputs := put State.reset.inputs 3 { lockedInput with counted := f, frame := none, ringLength := 5 }
      rings := put State.reset.rings 3 ⟨[20, 21, 22, 23, 24], [24, 23, 22, 21, 20], 0⟩
      slots := [20, 21, 22, 23, 24].foldl
        (fun v n => put v n ⟨.complete, .input 3, n, f, 0, none, []⟩) State.reset.slots
      scenes := put State.reset.scenes 0 { Scene.reset with liveList := [0, 1] }
      windows := put (put State.reset.windows 0 x) 1 x
      comp := { Compositor.reset with composed := [0] } }
    let whole := after .outputFrameBoundary s
    let alone := after (.freezeOrderOn 1) (after (.freezeOrderOn 0) s)
    (whole.pin 0 = some 24 ∧ whole.pin 1 = some 24)
      ∧ (alone.pin 0 = some 24 ∧ alone.pin 1 = some 23 ∧ (alone.slot 23).claims = 1)
      ∧ ((after .outputFrameBoundary alone).slot 23).claims = 0 := by
  decide +kernel

/-- 4.9, at 25 ms: the reference timeout gives HOLDOVER with a count of 600, and TIMING is raised. -/
theorem test_reference_timeout :
    let t := after .referenceTimeout tracking
    t.now = 3375000 ∧ t.time.timing = .holdover ∧ t.time.holdover = 600 ∧ t.time.nextBoundary = some 2250000
      ∧ t.events.entries.map (·.event) = [.restart .line, .timing .holdover] := by
  decide +kernel

/-- 4.9, at 33.333 ms: a boundary at the held period counts. -/
theorem test_holdover_boundary :
    let t := after .outputFrameBoundary (after .referenceTimeout tracking)
    t.time.timing = .holdover ∧ t.time.holdover = 599 ∧ t.time.nextBoundary = some 4500000 := by
  decide +kernel

/-- 4.10, at 50 ms: the midway lock point of a class 25 input ends the aligning frame. -/
theorem test_midway_lock_point :
    let s := { State.reset with
      inputs := put State.reset.inputs 4 { lockedInput with
        counted := some ⟨1920, 1080, .r25, true⟩, midway := some (6750000, 2700000) }
      time := { TimeBase.reset 0 0 with
        rate := .r50, source := .input 4, timing := .tracking, nextBoundary := none, frameBegan := 2250000 } }
    let t := after (.lockPointMidway 4) s
    t.time.nextBoundary = some 6750000 ∧ t.time.measured = some 2700000 ∧ (t.input 4).midway = none := by
  decide +kernel

/-- R64: a class 25 frame begun in SUSPECT, whose end at 15 ms brings LOCKED, has its midway lock point at 20 ms. -/
theorem test_midway_lock_point_of_a_frame_that_locks :
    let s := { State.reset with
      inputs := put State.reset.inputs 4 { lockedInput with
        state := .suspect, count := 1, counted := some ⟨1920, 1080, .r25, true⟩, frame := none }
      time := { TimeBase.reset 0 0 with rate := .r50, source := .input 4, frameBegan := 5000000 } }
    let t := after (.frameEnd 4 7425000 false []) (after (.frameStart 4 5400000 1920 1080 true) s)
    let m := after (.lockPointMidway 4) t
    (t.input 4).state = .locked ∧ (t.input 4).midway = some (8100000, 2700000) ∧ t.time.timing = .tracking
      ∧ m.now = 8100000 ∧ m.time.measured = some 2700000 ∧ m.time.nextBoundary = some 8100000 := by
  decide +kernel

/-- R62 after R66 (2): a lock point at 16.15 ms delays the boundary to 16.50 ms; the one after it, due one measured
period after the lock point, waits for the shortest frame too. -/
theorem test_delayed_boundary_keeps_the_shortest_frame :
    let s := { tracking with time := tracking.time.meet 2180250 2250000 }
    let late := { s with time := { s.time with afterNext := some 4430249 } }
    s.time.nextBoundary = some 2227500 ∧ s.time.afterNext = some 4430250
      ∧ (after .outputFrameBoundary s).time.nextBoundary = some 4455000
      ∧ (after .outputFrameBoundary late).time.nextBoundary = some 4455000 := by
  decide +kernel

/-- R63, R69: presence under a new rate is judged at the boundary's instant. A pulse at 1.5 periods is still present
there and one tick older is not, and no period of the old rate goes on. -/
theorem test_presence_is_judged_at_the_boundary :
    let s := fun (b : Ticks) => { tracking with time := { tracking.time with
      reference := some ⟨0, some 2700000⟩, staged := some (.r50, .reference), nextBoundary := some b } }
    let present := after .timingSetupApply (s 4050000)
    let absent := after .timingSetupApply (s 4050001)
    (present.now = 4050000 ∧ present.time.timing = .tracking ∧ present.time.rate = .r50)
      ∧ (absent.now = 4050001 ∧ absent.time.timing = .freeRun ∧ absent.time.measured = none)
      ∧ (after .outputFrameBoundary (s 4050001)).time.nextBoundary = some 6750001 := by
  decide +kernel

/-- 6.7: window 11 at B0 with MIX 4 from INPUT 7 to INPUT 9, and window 13 with FILL 3 from STILL 1 to STILL 2. -/
theorem test_take_starts_transitions :
    let live7 := { WindowConfig.reset with source := .plain (.input 7), transition := .mix 4 }
    let live1 := { WindowConfig.reset with source := .plain (.still 1), transition := .fill 3 }
    let s := { State.reset with
      scenes := put State.reset.scenes 2 { Scene.reset with
        stagedList := [11, 13], liveList := [11, 13], takePending := true }
      windows := put (put State.reset.windows
        11 { Window.reset with
          binding := some 2, live := live7, staged := { live7 with source := .plain (.input 9) }, shown := .input 7 })
        13 { Window.reset with
          binding := some 2, live := live1, staged := { live1 with source := .plain (.still 2) }, shown := .still 1 }
      link := { Link.reset with table := [⟨4, .take 2 60⟩], reserved := 1 } }
    let t := after (.sceneTakeApply 2) s
    (t.window 11).trans = .mix 1 4 (.input 7) (.input 9) ∧ mixWeight 1 4 = 64
      ∧ (t.window 13).trans = .dead 3 (.still 2) ∧ (t.window 13).shown = .still 1
      ∧ (t.scene 2).takePending = false ∧ t.link.replies = [⟨4, 0x29, .done, []⟩] := by
  decide +kernel

/-- Log entry 35: FILL 3, started by a take that is commanded before its boundary, advances at that boundary. -/
theorem test_take_commanded_before_its_boundary :
    let live := { WindowConfig.reset with source := .plain (.still 1), transition := .fill 3 }
    let s := { State.reset with
      scenes := put State.reset.scenes 2 { Scene.reset with stagedList := [13], liveList := [13], takePending := true }
      windows := put State.reset.windows 13 { Window.reset with
        binding := some 2, live := live, staged := { live with source := .plain (.still 2) }, shown := .still 1 }
      link := { Link.reset with table := [⟨4, .take 2 60⟩], reserved := 1 } }
    ((after .outputFrameBoundary (after (.sceneTakeApply 2) s)).window 13).trans = .dead 2 (.still 2)
      ∧ ((after .outputFrameBoundary s).window 13).trans = .dead 3 (.still 2) := by
  decide +kernel

/-- 6.8, B100: input 5 is not LOCKED and entry 3 is empty, so the tour steps to position 3, the same source. -/
theorem test_tour_passes_over :
    let live := { WindowConfig.reset with
      source := .tour, tourList := [.input 2, .input 5, .still 3, .input 2], dwell := 2 }
    let s := { State.reset with
      inputs := put (put State.reset.inputs 2 lockedInput) 5 { Input.reset with state := .searching }
      scenes := put State.reset.scenes 4 { Scene.reset with liveList := [20] }
      windows := put State.reset.windows 20 { Window.reset with
        binding := some 4, live := live, staged := live, shown := .input 2, tourRemaining := 1, tourPeriod := 100 }
      events := { State.reset.events with enables := Vector.replicate 7 true } }
    let t := after (.tourExpiry 20) s
    (t.window 20).tourPosition = 3 ∧ (t.window 20).shown = .input 2 ∧ (t.window 20).trans = .none
      ∧ (t.window 20).tourRemaining = 100
      ∧ t.events.entries.map (·.event) = [.restart .line, .tourStep 20 3 (.input 2)] := by
  decide +kernel

/-- 5.10, steps 1 and 2: a bound window is refused OWNER, and one that stands in a list STATE. -/
theorem test_bound_window_is_refused :
    (after (.windowBind 1 63 6) busy).link.replies = [⟨1, 0x20, .owner, []⟩]
      ∧ (after (.windowUnbind 2 63) busy).link.replies = [⟨2, 0x21, .state, []⟩] := by
  decide +kernel

/-- 8.10: OVERRIDE A asserted takes a NORMAL port with it among its sources to PROTECTED, and leaves the other alone. -/
theorem test_override_protects :
    let s := { State.reset with
      ports := put (put State.reset.ports
        3 { Port.reset with state := .normal, enable := true, protectA := true, assigned := some 2, showing := .scene 2 })
        7 { Port.reset with state := .normal, enable := true, assigned := some 6, showing := .scene 6 } }
    let t := after (.overrideAssert .a) s
    (t.port 3).state = .protected_ ∧ (t.port 3).showing = .black ∧ (t.port 3).causeA = true
      ∧ t.port 7 = s.port 7 ∧ t.alert = true := by
  decide +kernel

/-- 9.8, step 5: the transmitter takes a reply, its place is freed, and the frame at the head is dispatched at once. -/
theorem test_freed_place_dispatches :
    let s := { State.reset with
      link := { Link.reset with
        reserved := 14, replies := List.replicate 10 ⟨1, 0x24, .done, []⟩
        queue := [⟨3, 0x22, []⟩, ⟨4, 0x24, [0]⟩, ⟨5, 0x24, [0]⟩, ⟨6, 0x24, [0]⟩] } }
    let t := after .transmitStart s
    t.link.queue.map (·.tag) = [4, 5, 6] ∧ t.link.reserved = 14 ∧ t.link.replies.length = 10
      ∧ t.link.replies.getLast? = some ⟨3, 0x22, .badLength, []⟩ ∧ t.link.freePlaces = 0 := by
  decide +kernel

/-- 9.9, steps 1 to 3: a Device Reset queues the aborts in the order of acceptance and then DONE. -/
theorem test_device_reset_aborts :
    let s := { State.reset with
      reservations := put State.reset.reservations 2 (some 5)
      slots := put State.reset.slots 5 ⟨.empty, .grab 2, 0, none, 0, none, []⟩
      link := { Link.reset with
        table := [⟨0x21, .grab 2 0 120⟩, ⟨0x22, .take 1 60⟩], reserved := 2
        replies := [⟨0x23, 0x12, .done, []⟩, ⟨0x24, 0x12, .done, []⟩] } }
    let t := after (.deviceReset 0x25) s
    t.link.replies.map (·.tag) = [0x23, 0x24, 0x21, 0x22, 0x25] ∧ t.link.resetting = true
      ∧ t.reservation 2 = some 5 := by
  decide +kernel

/-- 10.7, step 2: PORT PROTECT stands before the entries of levels 1 and 2. -/
theorem test_raise_keeps_level_order :
    let set := recordEntry (recordEntry [] (.inputLost 5 1)) (.inputState 5 .searching none)
    (recordEntry set (.portProtect 3 true false false)).map (fun e => (e.event.code, e.count))
        = [(2, 1), (3, 1), (5, 1)]
      ∧ (recordEntry set (.inputState 5 .qualifying (some hd))).map (fun e => (e.event.code, e.count))
        = [(3, 1), (5, 2)] := by
  decide

/-- Table 9.1: the frame of Device Reset with tag 5: length 2, and the check 2 + 5 + H'3F = 70. -/
theorem test_frame_layout : frameBytes 5 0x3F [] = [0x7E, 2, 5, 0x3F, 0, 70] := by decide

/-- The lengths of the query replies (Tables 1.5, 2.6, 2.7, 5.5, 5.6, 8.4, 9.7), on the part in use. -/
theorem test_query_lengths :
    (inputQueryData 15 busy).length = 30 ∧ (storeSummary busy).length = 165 ∧ (storeDetail 15 busy).length = 59
      ∧ (windowQueryData 63 busy).length = 129 ∧ (sceneQueryData 15 busy).length = 97
      ∧ (portQueryData 11 busy).length = 18 ∧ (deviceQueryData busy).length = 8 := by
  decide +kernel

/-! ### The hypotheses of the statements can be met

One theorem for each statement with hypotheses, named after it: a state and operands that meet them together, for each
clause, at an end of its range. -/

/-- The RESET line asserted. -/
def held : State := { State.reset with resetLine := true }

/-- A Device Reset whose DONE reply is on its last byte. -/
def resetDue : State :=
  { State.reset with link := { Link.reset with resetting := true, sending := some (.reply ⟨9, 0x3F, .done, []⟩) } }

/-- The part in use with no command waiting and one more pending request. -/
def busyAsked (e : PendingRequest) : State := { busy with link := { busy.link with table := [e], reserved := 1 } }

/-- The part in use with the pending request table full. -/
def busyFull : State :=
  { busy with link := { busy.link with table := List.replicate 16 ⟨1, .assign 5 none⟩, reserved := 16 } }

/-- The part in use with nothing pending. -/
def busyIdle : State := { busy with link := Link.reset }

/-- The part in use with no slot in the pool. -/
def busyEmptyPool : State :=
  { busyIdle with slots := busyIdle.slots.map fun x => if x.state = .free then { x with state := .empty } else x }

/-- The part in use with window 63 as given. -/
def busyWindow (x : Window) : State := { busyIdle with windows := put busyIdle.windows 63 x }

/-- The part in use with port 11 in the state given. -/
def busyPort (p : Port) : State := { busyIdle with ports := put busyIdle.ports 11 p }

/-- The part in use with unit 15 as given. -/
def busyInput (u : Input) : State := { busyIdle with inputs := put busyIdle.inputs 15 u }

/-- The part in use with the time base given. -/
def busyTime (x : TimeBase) : State := { busyIdle with time := x }

/-- TRACKING input 15 with a measured period. -/
def following : TimeBase :=
  { TimeBase.reset 0 0 with source := .input 15, timing := .tracking, measured := some 2250000 }

/-- The part in use with scene 15 not composed, port 0 in NORMAL, and a choice of window 63 from a scene before. -/
def uncomposed : State :=
  { busyWindow { frozenWindow with frozen := false } with
    pins := State.reset.pins
    comp := { Compositor.reset with record := [⟨63, .input 15, .pattern⟩] } }

/-- A slot that no window pins. -/
theorem unpinned_everywhere {s : State} {n : Nat} {P : Nat → Prop} (h : ∀ w, w < 64 → P w → s.pin w ≠ some n) :
    ∀ w, P w → s.pin w ≠ some n := by
  intro w hp e
  by_cases hw : w < 64
  · exact h w hw hp e
  · have : s.pin w = none := look_outside _ _ (by omega)
    rw [this] at e; cases e

theorem ready_idle : busyIdle.Ready := ⟨rfl, rfl, rfl, by decide⟩
theorem ready_full : busyFull.Ready := ⟨rfl, rfl, rfl, by decide⟩
theorem ready_asked (e : PendingRequest) : (busyAsked e).Ready := ⟨rfl, rfl, rfl, by simp [busyAsked, busy, Link.reset]⟩
theorem ready_window (x : Window) : (busyWindow x).Ready := ⟨rfl, rfl, rfl, by simp [busyWindow, busyIdle, Link.reset]⟩
theorem ready_port (p : Port) : (busyPort p).Ready := ⟨rfl, rfl, rfl, by simp [busyPort, busyIdle, Link.reset]⟩
theorem ready_input (u : Input) : (busyInput u).Ready := ⟨rfl, rfl, rfl, by simp [busyInput, busyIdle, Link.reset]⟩

theorem test_StepTakesFrontCommand_applies :
    (resetWith [.outputFrameBoundary, .transmitStart]).pending = .outputFrameBoundary :: [.transmitStart]
      ∧ State.reset.pending = [] := ⟨rfl, rfl⟩

theorem test_ResetLineStopsEveryEvent_applies :
    held.resetLine = true ∧ (∀ t, Instr.outputFrameBoundary ≠ .resetLineDeassert t)
      ∧ (∀ l, Instr.outputFrameBoundary ≠ .overrideAssert l) ∧ (∀ l, Instr.outputFrameBoundary ≠ .overrideDeassert l) :=
  ⟨rfl, nofun, nofun, nofun⟩

theorem test_PartWideResetsGiveResetValues_applies :
    held.resetLine = true
      ∧ (resetDue.resetLine = false ∧ resetDue.link.resetting = true
        ∧ resetDue.link.sending = some (.reply ⟨9, 0x3F, .done, []⟩))
      ∧ busy.Ready ∧ LinkBounded busy :=
  ⟨rfl, ⟨rfl, rfl, rfl⟩, ready_busy,
    ⟨by decide, by decide, by decide, by decide, by decide, by decide, by decide, by decide +kernel⟩⟩

theorem test_RequestFramesAreReadBack_applies :
    ((Instr.windowBind 255 63 15).wellFormed = true ∧ requestFrame (.windowBind 255 63 15) = some ⟨255, 0x20, [63, 15]⟩)
      ∧ ((Instr.unknownKind 0 0x81 (List.replicate 248 0)).wellFormed = true
        ∧ requestFrame (.unknownKind 0 0x81 (List.replicate 248 0)) = some ⟨0, 0x81, List.replicate 248 0⟩) := by
  decide +kernel

theorem test_RequestBytesActAsTheRequest_applies :
    (Instr.windowBind 255 63 15).wellFormed = true ∧ requestFrame (.windowBind 255 63 15) = some ⟨255, 0x20, [63, 15]⟩
      ∧ busy.Ready ∧ busy.link.receiver = .hunting ∧ busy.link.gap = none :=
  ⟨by decide, by decide, ready_busy, rfl, rfl⟩

/-- The part in use meets every invariant, and its step, a boundary, answers a next state. -/
theorem test_invariant_statements_apply :
    (LinkBounded busyAtBoundary ∧ PendingSetOrdered busyAtBoundary ∧ PortCausesFollowLines busyAtBoundary
      ∧ InputsSound busyAtBoundary ∧ TimingSound busyAtBoundary ∧ SceneTablesSound busyAtBoundary
      ∧ StoreSound busyAtBoundary ∧ StoredFramesSound busyAtBoundary ∧ ColoursInRange busyAtBoundary)
      ∧ Commanded busyAtBoundary ∧ ∃ t, step busyAtBoundary = .next t :=
  ⟨⟨test_busy_linkBounded, test_busy_pendingSetOrdered, test_busy_portsFollowLines, test_busy_inputsSound,
      test_timingSound.2.2.2, test_busy_sceneTablesSound, test_busy_storeSound, test_busy_storedFramesSound,
      test_busy_coloursInRange⟩,
    by simp [Commanded, busyAtBoundary, Instr.wellFormed], _, rfl⟩

theorem test_SlotCountsAddUpTo96_applies : StoreSound busyAtBoundary := test_busy_storeSound

/-- A slot that the writer may take for input 15. -/
def Candidate (s : State) (n : Nat) : Prop :=
  n ∈ (s.ring 15).slots ∧ (s.slot n).claims = 0 ∧ (s.slot n).pinned = none ∧ (s.slot n).state ≠ .filling
    ∧ (s.ring 15).age.head? ≠ some n

/-- Slot 94 STALE; then complete and the oldest; then claimed, so that the ring has no candidate. -/
theorem test_WriterChoosesByRingThenAge_applies :
    let oldest := { busy with
      slots := put busy.slots 94 ⟨.complete, .input 15, 6, some hd, 0, none, []⟩
      rings := put busy.rings 15 ⟨[92, 93, 94, 95], [93, 94], 0⟩ }
    let none_ := { busy with slots := put busy.slots 94 ⟨.complete, .input 15, 6, some hd, 32, none, []⟩ }
    ((busy.ring 15).slots = [92, 93] ++ 94 :: [95] ∧ Candidate busy 94 ∧ (busy.slot 94).state = .stale
        ∧ (∀ m ∈ [92, 93], ¬Candidate busy m) ∧ busy.writeSlot 15 = some 94)
      ∧ ((oldest.ring 15).age = [93] ++ 94 :: [] ∧ Candidate oldest 94
        ∧ (∀ m, Candidate oldest m → ¬((oldest.slot m).state = .empty ∨ (oldest.slot m).state = .stale))
        ∧ oldest.writeSlot 15 = some 94)
      ∧ ((∀ m, Candidate none_ m → False) ∧ none_.writeSlot 15 = none) := by
  intro oldest none_
  unfold Candidate
  have old : ∀ m ∈ (oldest.ring 15).slots, ¬((oldest.slot m).state = .empty ∨ (oldest.slot m).state = .stale) := by
    decide +kernel
  have no : ∀ m ∈ (none_.ring 15).slots, (none_.slot m).claims = 0 → (none_.slot m).pinned = none →
      (none_.slot m).state ≠ .filling → False := by decide +kernel
  exact ⟨by decide +kernel, ⟨by decide +kernel, by decide +kernel, fun m h => old m h.1, by decide +kernel⟩,
    fun m h => no m h.1 h.2.1 h.2.2.1 h.2.2.2.1, by decide +kernel⟩

/-- Rank 0 on the part in use, each substitute of a unit in OFF and of one with an empty age list, and both kinds of
still entry. -/
theorem test_ReaderRanksByDelay_applies :
    ((busy.input 15).state = .locked ∧ (busy.ring 15).age = [] ++ 93 :: []
        ∧ ([] : List Nat).length = min (min 6 (busy.unpinned 15 - 3)) ((busy.ring 15).age.length - 1))
      ∧ (¬((busy.input 0).state = .locked ∨ (busy.input 0).state = .suspect) ∧ (busy.input 0).substKind = .black)
      ∧ (∀ k ∈ [SubstKind.fill, .pattern, .still],
        (((busyInput { Input.reset with substKind := k, substStill := 15 }).input 15).state = .off)
          ∧ ((busyInput { Input.reset with substKind := k, substStill := 15 }).input 15).substKind = k
          ∧ (busyInput { Input.reset with substKind := k, substStill := 15 }).still 15 = some 0)
      ∧ (((busyInput { Input.reset with substKind := .still, substStill := 14 }).input 15).substKind = .still
        ∧ (busyInput { Input.reset with substKind := .still, substStill := 14 }).still 14 = none)
      ∧ ((busy.ring 15).age.drop 1 = []) ∧ (busy.still 15 = some 0 ∧ busy.still 14 = none) := by
  decide +kernel

theorem test_SamplesAndWeightsStayInBounds_applies :
    ((1 : Nat) ≤ 640 ∧ (1 : Nat) ≤ 360 ∧ ∀ r, Crop.rect ⟨639, 359, 1920, 1080⟩ = .rect r → 1 ≤ r.w ∧ 1 ≤ r.h)
      ∧ (∀ r, Crop.whole = .rect r → 1 ≤ r.w ∧ 1 ≤ r.h) ∧ (2 ≤ 255 ∧ 1 ≤ 255 ∧ 255 ≤ 255) :=
  ⟨⟨by decide, by decide, by rintro r ⟨⟩; decide⟩, nofun, by decide⟩

theorem test_ScenePixelsStayInRange_applies : SceneTablesSound busyAtBoundary ∧ ColoursInRange busyAtBoundary :=
  ⟨test_busy_sceneTablesSound, test_busy_coloursInRange⟩

theorem test_PortComponentsWithinLimits_applies :
    (⟨1023, 0, 1023⟩ : Colour).inRange = true ∧ Port.reset.depth10 = true ∧ Port.reset.full = false
      ∧ ({ Port.reset with full := true } : Port).full = true
      ∧ ({ Port.reset with depth10 := false } : Port).depth10 = false := by
  decide

/-- TOUR STEP is disabled, LINK ERROR has no entry and RESTART has one. -/
theorem test_RaiseCreatesOrMerges_applies :
    PendingSetOrdered busyAtBoundary ∧ busyAtBoundary.events.enabled (Event.tourStep 63 7 .fill).code = false
      ∧ (busyAtBoundary.events.enabled Event.linkError.code = true
        ∧ ∀ x ∈ busyAtBoundary.events.entries, x.event.sameEntry .linkError = false)
      ∧ (busyAtBoundary.events.enabled (Event.restart .request).code = true
        ∧ busyAtBoundary.events.entries = [] ++ ⟨.restart .line, 1, false⟩ :: []
        ∧ (Event.restart .line).sameEntry (.restart .request) = true) :=
  ⟨test_busy_pendingSetOrdered, by decide, ⟨by decide, by decide⟩, by decide, rfl, by decide⟩

theorem test_AlertFollowsLevelZero_applies :
    State.reset.resetLine = false ∧ held.resetLine = true ∧ ∀ t, Instr.outputFrameBoundary ≠ .resetLineDeassert t :=
  ⟨rfl, rfl, nofun⟩

/-- One field past its range for each request of the statement. -/
theorem test_FieldsOutOfRangeAnswerRange_applies :
    busy.Ready ∧ inputSetupOk { setup with ring := 9 } = false ∧ inputSetupOk { setup with k := 1 } = false
      ∧ inputSetupOk setup = true ∧ portSetupOk { portFields with port := 12 } = false
      ∧ portSetupOk portFields = true ∧ (15 < 16 ∧ 1 < 2 ∧ 63 < 64 ∧ 11 < 12)
      ∧ (15 < 254 ∧ 254 ≠ 255) ∧ (∃ x ∈ [1, 1, 1, 1, 1, 1, 1] ++ [1, 1, 1, 2], 1 < x) :=
  ⟨ready_busy, by decide, by decide, by decide, by decide, by decide, by decide, by decide, 2, by decide, by decide⟩

theorem test_FailedChecksChangeNothing_applies :
    ((busyAsked ⟨1, .reset 15⟩).Ready ∧ inputSetupOk setup = true
        ∧ (busyAsked ⟨1, .reset 15⟩).hasPending (·.isResetOf 15) = true
        ∧ ((busyAsked ⟨1, .reset 15⟩).input 15).state ≠ .off)
      ∧ (busy.Ready ∧ busy.hasPending (·.isResetOf 15) = false ∧ (busy.input 15).state ≠ .off
        ∧ setup.ring ≠ (busy.ring 15).slots.length)
      ∧ ((busyEmptyPool.input 0).state = .off ∧ busyEmptyPool.freeSlots = [] ∧ busyEmptyPool.freeSlots.length < 3
        ∧ busyEmptyPool.hasPending (·.isResetOf 0) = false ∧ busyEmptyPool.hasPending (·.isGrabOf 15) = false
        ∧ busyEmptyPool.hasPending (·.isGrabInto 0) = false ∧ (busyEmptyPool.input 15).state = .locked
        ∧ busyEmptyPool.link.table.length < 16)
      ∧ (busyFull.Ready ∧ 16 ≤ busyFull.link.table.length ∧ (busyFull.input 15).state = .locked)
      ∧ ((busy.input 0).state ≠ .locked ∧ busy.hasPending (·.isGrabOf 15) = true
        ∧ busy.hasPending (·.isGrabInto 14) = true)
      ∧ ((busy.window 0).binding = none ∧ (busy.window 62).target = .input 0 ∧ (busy.window 62).frozen = false)
      ∧ ((busyWindow { frozenWindow with frozen := false }).Ready
        ∧ ((busyWindow { frozenWindow with frozen := false }).window 63).binding = some 15
        ∧ 63 ∈ ((busyWindow { frozenWindow with frozen := false }).scene 15).liveList
        ∧ ((busyWindow { frozenWindow with frozen := false }).window 63).target = .input 15
        ∧ (busyWindow { frozenWindow with frozen := false }).unpinned 15 < 4)
      ∧ ((({ busyIdle with scenes := put busyIdle.scenes 15 { Scene.reset with takePending := true } } : State).scene
        15).takePending = true)
      ∧ ((busyAsked ⟨1, .assign 11 none⟩).Ready
        ∧ (busyAsked ⟨1, .assign 11 none⟩).hasPending (·.isAssignOf 11) = true) :=
  ⟨⟨ready_asked _, by decide +kernel⟩, ⟨ready_busy, by decide +kernel⟩, by decide +kernel,
    ⟨ready_full, by decide +kernel⟩, by decide +kernel, by decide +kernel, ⟨ready_window _, by decide +kernel⟩,
    by decide +kernel, ready_asked _, by decide +kernel⟩

/-- All 24 places taken, with three and with four frames waiting; and a Device Reset in progress. -/
theorem test_FramesWaitOverrunOrAreRefused_applies :
    (∀ q ∈ [3, 4],
      let s := { State.reset with link := { Link.reset with
        replies := List.replicate 24 ⟨1, 0x24, .done, []⟩, queue := List.replicate q ⟨1, 0x24, [0]⟩ } };
      s.resetLine = false ∧ s.link.resetting = false ∧ 24 ≤ s.link.reserved + s.link.replies.length
        ∧ s.link.queue.length = q)
      ∧ requestFrame (.deviceReset 255) = some ⟨255, 0x3F, []⟩
      ∧ (resetDue.resetLine = false ∧ resetDue.link.resetting = true ∧ resetDue.link.queue = [])
      ∧ (State.reset.Ready ∧ (0x80 : Byte).toNat ∉ listedKinds)
      ∧ (requestLength (0x3F : Byte).toNat = some 0 ∧ ([0] : List Byte).length ≠ 0)
      ∧ (1 < (2 : Byte).toNat ∧ 1 < (255 : Byte).toNat) :=
  ⟨by decide +kernel, by decide, ⟨rfl, rfl, rfl⟩, ⟨ready_reset, by decide⟩, by decide, by decide⟩

theorem test_InputSetupStoresAndEnables_applies :
    (State.reset.Ready ∧ inputSetupOk { setup with enable := 0 } = true
        ∧ State.reset.hasPending (·.isResetOf 15) = false ∧ (State.reset.input 15).state = .off)
      ∧ (busy.Ready ∧ inputSetupOk { setup with ring := 4 } = true ∧ busy.hasPending (·.isResetOf 15) = false
        ∧ (busy.input 15).state ≠ .off ∧ 4 = (busy.ring 15).slots.length)
      ∧ (inputSetupOk setup = true ∧ InputSound (State.reset.input 15) ∧ setup.ring ≤ State.reset.freeSlots.length) := by
  refine ⟨⟨ready_reset, by decide +kernel⟩, ⟨ready_busy, by decide +kernel⟩, by decide, ?_, by decide +kernel⟩
  exact ⟨by decide, by decide, by decide, by decide, by decide, by decide, nofun⟩

/-- The part in use disables input 15: slot 92 is pinned and slot 93 claimed, slot 94 neither, slot 0 outside the ring;
window 63 is frozen on it, window 62 is not; and its grab holds slot 1. -/
theorem test_InputSetupDisables_applies :
    busy.Ready ∧ inputSetupOk { setup with enable := 0 } = true ∧ busy.hasPending (·.isResetOf 15) = false
      ∧ (busy.input 15).state ≠ .off
      ∧ (busy.reservation 15 ≠ some 92 ∧ 92 ∈ (busy.ring 15).slots ∧ (busy.slot 92).pinned.isSome = true
        ∧ (busy.slot 93).claims ≠ 0 ∧ (busy.slot 94).claims = 0 ∧ (busy.slot 94).pinned = none
        ∧ 0 ∉ (busy.ring 15).slots)
      ∧ ((busy.window 63).frozen = true ∧ (busy.window 63).shown = .input 15 ∧ (busy.window 62).frozen = false)
      ∧ (busy.hasPending (·.isGrabOf 15) = true ∧ busy.reservation 15 = some 1) ∧ busy.time.source ≠ .input 15 :=
  ⟨ready_busy, by decide +kernel⟩

/-- The part in use resets input 15: slot 92 is pinned, 93 COMPLETE, 94 STALE, 95 FILLING and 0 outside the ring; its
grab holds slot 1; and a second part in which window 0, frozen on it too, shares the pin. -/
theorem test_InputResetActsAtOnce_applies :
    busy.Ready ∧ (busy.input 15).state ≠ .off ∧ busy.hasPending (·.isResetOf 15) = false
      ∧ busy.link.table.length < 16
      ∧ (0 ∉ (busy.ring 15).slots ∧ busy.reservation 15 ≠ some 0 ∧ ∀ w, True → busy.pin w ≠ some 0)
      ∧ (93 ∈ (busy.ring 15).slots ∧ (busy.slot 93).state = .complete ∧ (busy.slot 93).pinned = none
        ∧ ∀ w, True → busy.pin w ≠ some 93)
      ∧ ((busy.window 63).frozen = true ∧ (busy.window 63).shown = .input 15 ∧ busy.pin 63 = some 92
        ∧ ∀ v, v ≠ 63 → busy.pin v ≠ some 92)
      ∧ ((busy.slot 94).state = .stale ∧ (busy.slot 95).state = .filling ∧ ∀ w, w < 64 → ∀ n ∈ [94, 95], busy.pin w ≠ some n)
      ∧ (busy.hasPending (·.isGrabOf 15) = true ∧ busy.reservation 15 = some 1)
      ∧ (let s := { busy with windows := put busy.windows 0 frozenWindow, pins := put busy.pins 0 (some 92) };
        (s.window 0).frozen = true ∧ (s.window 0).shown = .input 15 ∧ s.pin 0 = some 92 ∧ s.pin 63 = some 92)
      ∧ (busy.window 62).frozen = false ∧ busy.time.source ≠ .input 15 ∧ (busy.input 15).state ≠ .searching :=
  ⟨ready_busy, by decide +kernel, by decide +kernel, by decide +kernel,
    ⟨by decide +kernel, by decide +kernel, unpinned_everywhere (by decide +kernel)⟩,
    ⟨by decide +kernel, by decide +kernel, by decide +kernel, unpinned_everywhere (by decide +kernel)⟩,
    ⟨by decide +kernel, by decide +kernel, by decide +kernel, unpinned_everywhere (by decide +kernel)⟩,
    by decide +kernel⟩

/-- A query of each kind; a unit with a counted format and one with none; a window on a tour, on a plain source, in each
state of its transition, with each kind of crop and of live transition, listed and unbound; a ring position in use and
one beyond the ring. -/
theorem test_QueriesAnswerDone_applies :
    let cropped := { WindowConfig.reset with crop := .rect ⟨1919, 1079, 16, 16⟩, transition := .fill 63 }
    let moving := fun (x : TransState) => busyWindow { frozenWindow with live := cropped, frozen := false, trans := x };
    busy.Ready ∧ (15 ≤ 15 ∧ 63 ≤ 63 ∧ 11 ≤ 11)
      ∧ ((busy.input 15).counted = some hd ∧ (busy.input 0).counted = none)
      ∧ ((busy.window 63).live.source = .plain (.input 15) ∧ (busy.window 62).live.source = .tour
        ∧ (busy.window 62).live.tourList[1]? = some (.still 15) ∧ (busy.window 62).live.tourList.length ≤ 7)
      ∧ ((busy.window 63).live.crop = .whole ∧ (busy.window 63).live.transition = .cut)
      ∧ (((moving .none).window 63).live.crop = .rect ⟨1919, 1079, 16, 16⟩
        ∧ ((moving .none).window 63).live.transition = .fill 63)
      ∧ (∀ x ∈ [TransState.none, .dead 63 .pattern, .mix 1 255 .fill .pattern], ((moving x).window 63).trans = x)
      ∧ ((busy.window 0).binding = none ∧ (busy.window 63).binding = some 15
        ∧ (busy.scene 15).liveList = [62] ++ 63 :: [] ∧ 63 ∉ [62] ∧ 0 ∉ (busy.scene 15).liveList)
      ∧ ((busy.ring 15).slots[3]? = some 95 ∧ (busy.ring 15).slots.length ≤ 4) :=
  ⟨ready_busy, by decide +kernel⟩

theorem test_GrabsReserveAndDropsRetire_applies :
    (busyIdle.Ready ∧ (busyIdle.input 15).state = .locked ∧ busyIdle.hasPending (·.isGrabOf 15) = false
        ∧ busyIdle.hasPending (·.isGrabInto 15) = false ∧ busyIdle.link.table.length < 16
        ∧ busyIdle.freeSlots = 3 :: busyIdle.freeSlots.tail)
      ∧ (busyIdle.still 15 = some 0 ∧ busyIdle.still 0 = none) :=
  ⟨⟨ready_idle, by decide +kernel⟩, by decide +kernel⟩

/-- Window 63 is bound and listed, and window 0 is unbound. -/
theorem test_BindingFollowsItsRules_applies :
    busy.Ready ∧ (63 < 64 ∧ 15 < 16)
      ∧ ((busy.window 63).binding = some 15 ∧ 15 ≠ 14 ∧ 63 ∈ (busy.scene 15).stagedList)
      ∧ ((busyAtBoundary.window 0).binding = none ∧ SceneTablesSound busyAtBoundary)
      ∧ ((∀ j, (busy.window 0).binding = some j → 0 ∉ (busy.scene j).stagedList ∧ 0 ∉ (busy.scene j).liveList)) :=
  ⟨ready_busy, by decide, by decide +kernel, ⟨by decide +kernel, test_busy_sceneTablesSound⟩, fun j h => by
    have : (busy.window 0).binding = none := by decide +kernel
    rw [this] at h; cases h⟩

theorem test_StagingFollowsItsRules_applies :
    busy.Ready ∧ windowStageOk stage = true ∧ windowStageOk { stage with dwell := 601 } = false
      ∧ (busy.window stage.window).binding = some 15
      ∧ (windowStageOk { stage with window := 0 } = true ∧ (busy.window 0).binding = none)
      ∧ sceneStageOk sceneFields = true ∧ sceneStageOk { sceneFields with count := 9 } = false
      ∧ (∀ w ∈ sceneFields.windows.take sceneFields.count, (busy.window w).binding = some sceneFields.scene)
      ∧ (sceneStageOk { sceneFields with scene := 14 } = true
        ∧ ∃ w ∈ sceneFields.windows.take sceneFields.count, (busy.window w).binding ≠ some 14) :=
  ⟨ready_busy, by decide, by decide, by decide +kernel, ⟨by decide, by decide +kernel⟩, by decide, by decide,
    by decide +kernel, by decide, 63, by decide, by decide +kernel⟩

theorem test_RequestsForTheBoundaryWait_applies :
    (busy.Ready ∧ busy.link.table.length < 16 ∧ (busy.scene 15).takePending = false
        ∧ busy.hasPending (·.isAssignOf 11) = false)
      ∧ ((busy.window 63).binding = some 15 ∧ 63 ∈ (busy.scene 15).liveList ∧ (busy.window 63).frozen = true)
      ∧ ((busy.window 62).binding = some 15 ∧ 62 ∈ (busy.scene 15).liveList ∧ (busy.window 62).frozen = false
        ∧ (busy.window 62).target = .input 0 ∧ (busy.input 0).state = .off) :=
  ⟨⟨ready_busy, by decide +kernel⟩, by decide +kernel, by decide +kernel⟩

/-- Scene 15 is being composed, scene 0 is not; a take of scene 15 whose staged list has lost window 63 unfreezes it,
with its pin; and one that moves window 63 to still 15 brings that source in. -/
theorem test_NowTakeIsAppliedAtOnce_applies :
    (busyAtBoundary.Ready ∧ SceneTablesSound busyAtBoundary)
      ∧ ((busy.scene 15).takePending = false ∧ 15 ∈ busy.comp.composed ∧ 0 ∉ busy.comp.composed)
      ∧ (let s := { busy with scenes := put busy.scenes 15 { busy.scene 15 with stagedList := [62] } };
        (s.window 63).binding = some 15 ∧ 63 ∈ (s.scene 15).liveList ∧ (s.window 63).frozen = true
          ∧ ((after (.sceneTakeNow 1 15) s).window 63).frozen = false ∧ s.pin 63 = some 92)
      ∧ (let s := busyWindow { frozenWindow with staged := { frozenWindow.staged with source := .plain (.still 15) } };
        let t := after (.sceneTakeNow 1 15) s;
        (63, .still 15) ∈ t.sourcesOf 15 ∧ s.uses 15 63 (.still 15) = false
          ∧ t.recorded 63 (.still 15) = some (.slot 0) ∧ (t.slot 0).claims = 1) :=
  ⟨⟨⟨rfl, rfl, rfl, by decide⟩, test_busy_sceneTablesSound⟩, by decide +kernel, by decide +kernel, by decide +kernel⟩

theorem test_PendingTakeIsApplied_applies :
    (busyAsked ⟨255, .take 15 60⟩).resetLine = false
      ∧ (busyAsked ⟨255, .take 15 60⟩).link.table = [] ++ ⟨255, .take 15 60⟩ :: []
      ∧ ∀ x ∈ ([] : List PendingRequest) ++ [], x.target.isTakeOf 15 = false :=
  ⟨rfl, rfl, nofun⟩

/-- A last dead frame, a MIX at its last step, and a tour at its last frame whose next entry, still 15, holds a slot;
then a tour whose next entry is an input in OFF. -/
theorem test_TransitionsAndDwellsEnd_applies :
    (let s := busyWindow { frozenWindow with frozen := false, trans := .dead 1 .pattern };
      s.resetLine = false ∧ s.inLive 63 = true ∧ (s.window 63).frozen = false ∧ (s.window 63).trans = .dead 1 .pattern)
      ∧ (let s := busyWindow { frozenWindow with frozen := false, trans := .mix 255 255 .fill .pattern };
        s.inLive 63 = true ∧ (s.window 63).trans = .mix 255 255 .fill .pattern)
      ∧ (busy.inLive 62 = true ∧ (busy.window 62).frozen = false ∧ (busy.window 62).live.source = .tour
        ∧ (busy.window 62).tourRemaining ≤ 1 ∧ (busy.window 62).live.tourList[1]? = some (.still 15)
        ∧ busy.eligible (.still 15) = true ∧ ((busy.window 62).tourPosition + 1) % 2 = 1)
      ∧ (let s := { busy with stills := put busy.stills 15 none };
        ∀ d, 1 ≤ d → d < 2 → ∀ other ∈ (s.window 62).live.tourList[((s.window 62).tourPosition + d) % 2]?,
          s.eligible other = false) := by
  refine ⟨by decide +kernel, by decide +kernel, by decide +kernel, ?_⟩
  intro s d h1 h2
  have : d = 1 := by omega
  subst this
  decide +kernel

/-- Orders ON: on a frozen window; on one that shows a substitute; on one whose input has four slots unpinned, which
pins slot 93; and on one whose input has three, whose pin is not made. -/
theorem test_FreezeOrderOnFreezesAndPins_applies :
    let on := { frozenWindow with freezeOrder := .on };
    let open_ := { frozenWindow with freezeOrder := .on, frozen := false };
    let free := { busyWindow open_ with
      pins := State.reset.pins, slots := put busyIdle.slots 92 ⟨.stale, .input 15, 7, some hd, 0, none, []⟩ };
    ((busyWindow on).resetLine = false ∧ ((busyWindow on).window 63).freezeOrder = .on
        ∧ ((busyWindow on).window 63).frozen = true)
      ∧ (let s := busyWindow { open_ with shown := .input 0 };
        (s.window 63).freezeOrder = .on ∧ (s.window 63).frozen = false ∧ s.inLive 63 = true
          ∧ (s.window 63).target = .input 0 ∧ s.able 0 = false)
      ∧ ((free.window 63).freezeOrder = .on ∧ free.inLive 63 = true ∧ (free.window 63).target = .input 15
        ∧ free.able 15 = true ∧ (free.ring 15).age = [] ++ 93 :: [] ∧ (free.slot 93).pinned = none
        ∧ 4 ≤ free.unpinned 15 ∧ free.inComposed 63 = true)
      ∧ (let s := busyWindow open_;
        (s.window 63).target = .input 15 ∧ s.able 15 = true ∧ (s.ring 15).age = [] ++ 93 :: []
          ∧ (s.slot 93).pinned = none ∧ s.unpinned 15 < 4) := by
  decide +kernel

/-- Orders OFF: on a window not frozen; on one frozen without a pin; on one alone on its slot; on one that shares it. -/
theorem test_FreezeOrderOffReleasesThePin_applies :
    let off := { frozenWindow with freezeOrder := .off };
    (((busyWindow { off with frozen := false }).window 63).freezeOrder = .off
        ∧ ((busyWindow { off with frozen := false }).window 63).frozen = false)
      ∧ (({ busyWindow off with pins := State.reset.pins } : State).pin 63 = none)
      ∧ ((busyWindow off).resetLine = false ∧ ((busyWindow off).window 63).freezeOrder = .off
        ∧ (busyWindow off).pin 63 = some 92 ∧ ∀ v, v ≠ 63 → (busyWindow off).pin v ≠ some 92)
      ∧ (let s := { busyWindow off with pins := put (busyWindow off).pins 0 (some 92) };
        s.pin 63 = some 92 ∧ s.pin 0 = some 92) :=
  ⟨by decide +kernel, by decide +kernel,
    ⟨by decide +kernel, by decide +kernel, by decide +kernel, unpinned_everywhere (by decide +kernel)⟩,
    by decide +kernel⟩

/-- The causes of port 11 follow the lines in each of these states of it. -/
theorem soundPort (p : Port) (h : p.enable = true ↔ p.state ≠ .disabled) (hd : p.state = .disabled → p.noCause = true)
    (ha : p.state ≠ .disabled → p.causeA = (p.protectA && true)) (hb : p.state ≠ .disabled → p.causeB = (p.protectB && false))
    (ho : p.state ≠ .protected_ → p.noCause = true)
    (hp : p.state = .protected_ → p.auto = true → p.noCause = false) : PortSound (busyPort p) 11 := by
  have : (busyPort p).port 11 = p := look_put_same _ _ _ (by decide)
  constructor <;> rw [this]
  · exact h
  · exact hd
  · exact ha
  · exact hb
  · exact ho
  · exact hp

theorem test_PortSetupActsInOneEvent_applies :
    (busyPort Port.reset).Ready ∧ portSetupOk portFields = true ∧ PortSound (busyPort Port.reset) 11
      ∧ PortSound (busyPort protectedPort) 11
      ∧ PortSound (busyPort { Port.reset with state := .normal, enable := true }) 11 := by
  refine ⟨ready_port _, by decide, ?_, ?_, ?_⟩ <;>
    exact soundPort _ (by decide) (by decide) (by decide) (by decide) (by decide) (by decide)

/-- Port 11 in each state that Port Hold and Port Resume distinguish. -/
theorem test_HoldAndResumeFollowTheirRules_applies :
    busy.Ready ∧ 11 < 12 ∧ ((busyPort Port.reset).port 11).state = .disabled
      ∧ (∀ st ∈ [PortState.starting, .normal, .resuming], ((busyPort { Port.reset with state := st }).port 11).state = st)
      ∧ ((busy.port 11).state = .protected_ ∧ (busy.port 11).hold = false ∧ (busy.port 11).protectA = true
        ∧ busy.overrideA = true)
      ∧ (let s := busyPort { protectedPort with protectA := false, causeA := false, hold := true };
        (s.port 11).state = .protected_ ∧ (s.port 11).hold = true ∧ (s.port 11).protectA = false
          ∧ (s.port 11).protectB = false) :=
  ⟨ready_busy, by decide, by decide +kernel, by decide +kernel, by decide +kernel, by decide +kernel⟩

/-- A port outside NORMAL and one in it, with its scene composed and, in `uncomposed`, not; there the choice that window
63 made in a scene before is made anew (R49, R50). -/
theorem test_NowAssignIsStoredAtOnce_applies :
    (busy.Ready ∧ busy.hasPending (·.isAssignOf 11) = false ∧ (busy.port 11).state ≠ .normal
      ∧ busy.hasPending (·.isAssignOf 0) = false ∧ (busy.port 0).state = .normal ∧ 15 ∈ busy.comp.composed)
      ∧ SceneTablesSound busyAtBoundary
      ∧ (uncomposed.Ready ∧ uncomposed.hasPending (·.isAssignOf 0) = false ∧ (uncomposed.port 0).state = .normal
        ∧ 15 ∉ uncomposed.comp.composed ∧ (63, .input 15) ∈ uncomposed.sourcesOf 15)
      ∧ ((after (.portAssignNow 1 0 15) uncomposed).recorded 63 (.input 15) = some (.slot 93)
        ∧ ((after (.portAssignNow 1 0 15) uncomposed).slot 93).claims = 2) :=
  ⟨⟨ready_busy, by decide +kernel⟩, test_busy_sceneTablesSound, ⟨⟨rfl, rfl, rfl, by decide⟩, by decide +kernel⟩,
    by decide +kernel⟩

/-- Port 11 with OVERRIDE B among its sources as well, in each state the assertion of B distinguishes. -/
theorem test_OverrideAssertProtects_applies :
    (busyPort Port.reset).resetLine = false ∧ (∀ p, p < 12 → PortSound busyAtBoundary p)
      ∧ PortSound (busyPort Port.reset) 11
      ∧ (PortSound (busyPort { Port.reset with state := .normal, enable := true, protectB := true }) 11
        ∧ ((busyPort { Port.reset with state := .normal, enable := true, protectB := true }).port 11).protects .b = true)
      ∧ PortSound (busyPort { protectedPort with protectB := true }) 11 := by
  refine ⟨rfl, test_busy_portsFollowLines.sound, ?_, ⟨?_, by decide +kernel⟩, ?_⟩ <;>
    exact soundPort _ (by decide) (by decide) (by decide) (by decide) (by decide) (by decide)

theorem test_OverrideDeassertReleases_applies :
    (busyPort protectedPort).resetLine = false ∧ (∀ p, p < 12 → PortSound busyAtBoundary p)
      ∧ PortSound (busyPort protectedPort) 11
      ∧ ((busyPort protectedPort).port 11).protects .a = true
      ∧ PortSound (busyPort { protectedPort with auto := true }) 11 ∧ PortSound (busyPort Port.reset) 11 := by
  refine ⟨rfl, test_busy_portsFollowLines.sound, ?_, by decide +kernel, ?_, ?_⟩ <;>
    exact soundPort _ (by decide) (by decide) (by decide) (by decide) (by decide) (by decide)

/-- In blanking, and at the last line with a port on a scene and one on black. -/
theorem test_LinesStartAtTheirSpacing_applies :
    busy.resetLine = false ∧ 1080 ≤ busy.nextLine ∧ ({ busy with nextLine := 1079 } : State).nextLine < 1080
      ∧ (busy.port 0).state ≠ .disabled ∧ (busy.port 0).showing = .scene 15 ∧ (busy.port 11).showing = .black
      ∧ (busy.port 1).state = .disabled
      ∧ ((busyPort { protectedPort with action := .still, index := 15, showing := .still 15 }).port 11).showing
        = .still 15 := by
  decide +kernel

theorem test_PendingRequestsEnd_applies :
    ((busyAsked ⟨1, .assign 11 (some 15)⟩).resetLine = false
        ∧ (busyAsked ⟨1, .assign 11 (some 15)⟩).link.table = [] ++ ⟨1, .assign 11 (some 15)⟩ :: [])
      ∧ (busyAsked ⟨1, .reset 15⟩).link.table = [] ++ ⟨1, .reset 15⟩ :: []
      ∧ ((busyAsked ⟨1, .grab 15 14 1⟩).link.table = [] ++ ⟨1, .grab 15 14 1⟩ :: []
        ∧ (busyAsked ⟨1, .grab 15 14 1⟩).reservation 15 = some 1)
      ∧ ∀ x ∈ ([] : List PendingRequest) ++ [], x.target.isGrabOf 15 = false :=
  ⟨⟨rfl, rfl⟩, rfl, ⟨rfl, by decide +kernel⟩, nofun⟩

/-- What is staged has no part in the soundness of the time base. -/
theorem timingSound_staged {s : State} (h : TimingSound s) (x : Option (Rate × LockSource)) :
    TimingSound { s with time := { s.time with staged := x } } :=
  ⟨h.counting, h.still, h.free, h.present, h.reference, h.scheduled, h.band, h.held, h.followed, h.began, h.spaced⟩

theorem test_TimingSetupOnlyStages_applies : busy.Ready ∧ (2 < 3 ∧ 15 < 16) ∧ (2 ≤ 2 ∧ 15 ≤ 15) ∧
    (let s := { tracking with time := { tracking.time with staged := some (tracking.time.rate, tracking.time.source) } };
     s.resetLine = false ∧ s.time.nextBoundary = some 2250000 ∧ TimingSound s) :=
  ⟨ready_busy, by decide, by decide, rfl, rfl, timingSound_staged test_timingSound.2.2.1 _⟩

/-- Presence of the lock source is lost with and without a measured period, gained, and unchanged. -/
theorem test_TimeFollows_applies :
    (tracking.lockPresent = true ∧ (after .referenceTimeout tracking).lockPresent = false
        ∧ tracking.time.timing = .tracking ∧ tracking.time.measured = some 2250000)
      ∧ (aligning.lockPresent = true ∧ (after (.inputReset 1 15) aligning).lockPresent = false
        ∧ aligning.time.timing = .tracking ∧ aligning.time.measured = none)
      ∧ (let s := { qualifying with time := { TimeBase.reset 0 0 with rate := .r50, source := .input 5 } };
        s.lockPresent = false ∧ (after (.frameEnd 5 2700000 false []) s).lockPresent = true
          ∧ s.time.timing ≠ .tracking ∧ (after (.frameEnd 5 2700000 false []) s).time.timing = .tracking
          ∧ (after (.frameEnd 5 2700000 false []) s).time.nextBoundary = none)
      ∧ (busy.lockPresent = false ∧ (after (.inputReset 1 15) busy).lockPresent = false) := by
  decide +kernel

/-- The six cases of a lock point, each at an end of its range: rate 60, the frame in progress begun at 0. -/
theorem test_LockPointTaken_applies :
    let a := tracking.time;
    let w := { a with nextBoundary := none };
    ((w.meet 2250000 2250000).nextBoundary = some 2250000 ∧ w.frameBegan + w.rate.period ≤ 2250000)
      ∧ ((w.meet 2249999 2250000).nextBoundary = none ∧ 2249999 < w.frameBegan + w.rate.period)
      ∧ ((a.meet 1124999 2250000).nextBoundary = some 3374999 ∧ 2 * 1124999 < 2 * a.frameBegan + a.rate.period)
      ∧ ((a.meet 1125000 2250000).nextBoundary = some 2227500 ∧ (a.meet 1125000 2250000).afterNext = some 3375000
        ∧ 2 * a.frameBegan + a.rate.period ≤ 2 * 1125000 ∧ 1125000 < a.frameBegan + a.rate.shortest)
      ∧ ((a.meet 2227500 2250000).nextBoundary = some 2227500 ∧ a.frameBegan + a.rate.shortest ≤ 2227500) := by
  decide +kernel

/-- Settings staged in each way that R69 (2) distinguishes, on a time base that tracks the reference, on one that does
not, and on one that tracks input 15; a lock source present under the new settings and one absent. -/
theorem test_StagedTimingIsSettled_applies :
    let staged := fun (s : State) (x : Rate × LockSource) => { s with time := { s.time with staged := some x } };
    (∀ x ∈ [(Rate.r60, LockSource.free), (.r50, .input 15), (.r60, .input 15), (.r60, .reference)],
      let s := staged tracking x;
      s.resetLine = false ∧ s.time.nextBoundary = some 2250000 ∧ s.time.staged = some (x.1, x.2))
      ∧ (tracking.time.timing = .tracking ∧ State.reset.time.timing ≠ .tracking)
      ∧ (after .timingSetupApply (staged tracking (.r60, .input 15))).lockPresent = false
      ∧ (after .timingSetupApply (staged tracking (.r50, .input 15))).lockPresent = false
      ∧ (after .timingSetupApply (staged busy (.r60, .input 15))).lockPresent = true
      ∧ (after .timingSetupApply (staged busy (.r5994, .input 15))).lockPresent = true
      ∧ (let s := staged (busyTime following) (.r5994, .input 15);
        s.time.timing = .tracking ∧ s.time.source = .input 15 ∧ s.time.settled = .plain
          ∧ (after .timingSetupApply s).lockPresent = true ∧ s.time.measured = some 2250000
          ∧ Rate.r5994.shortest ≤ 2250000 ∧ 2250000 ≤ Rate.r5994.longest) := by
  decide +kernel

/-- A first pulse; a pulse in the band while TRACKING; one that returns the reference; one that loses it; and one for a
time base with another source. -/
theorem test_ReferencePulseSetsPresence_applies :
    (State.reset.resetLine = false ∧ State.reset.time.reference = none ∧ State.reset.time.source ≠ .reference)
      ∧ (tracking.time.source = .reference ∧ tracking.time.reference = some ⟨0, some 2250000⟩
        ∧ tracking.time.rate.inReferenceBand (2249370 - 0) = true ∧ tracking.time.timing = .tracking)
      ∧ (let s := after .referenceTimeout tracking;
        s.time.source = .reference ∧ s.time.refPresent = false ∧ s.time.timing ≠ .tracking
          ∧ s.time.rate.inReferenceBand (2250720 - 0) = true)
      ∧ (tracking.time.rate.inReferenceBand (2250721 - 0) = false
        ∧ (after (.referencePulse 2250721) tracking).time.timing = .holdover)
      ∧ (let s := { tracking with time := { tracking.time with source := .free, timing := .freeRun } };
        s.time.source ≠ .reference ∧ s.time.rate.inReferenceBand (2250000 - 0) = true) := by
  decide +kernel

theorem test_ScheduledTimingEventsAct_applies :
    (tracking.resetLine = false ∧ tracking.time.reference = some ⟨0, some 2250000⟩
        ∧ tracking.time.source = .reference ∧ tracking.time.refPresent = true ∧ tracking.time.timing = .tracking)
      ∧ (let s := { busyInput { lockedInput with midway := some (6750000, 2700000) } with
          time := { TimeBase.reset 0 0 with source := .input 15, timing := .tracking } };
        s.resetLine = false ∧ (s.input 15).midway = some (6750000, 2700000) ∧ s.time.source = .input 15
          ∧ s.lockPresent = true ∧ s.time.timing = .tracking)
      ∧ (let s := { State.reset with time := { TimeBase.reset 0 0 with timing := .holdover, holdover := 1 } };
        s.time.timing = .holdover ∧ s.time.holdover ≤ 1 ∧ s.time.settled ≠ .held) := by
  decide +kernel

/-- Nothing staged in each timing state, with alignment waiting, with HOLDOVER just entered and with a delayed lock
point; and settings staged. -/
theorem test_BoundariesFollowTheTimingState_applies :
    (State.reset.resetLine = false ∧ State.reset.time.nextBoundary = some 2250000 ∧ State.reset.time.staged = none
        ∧ State.reset.time.timing = .freeRun)
      ∧ (tracking.time.timing = .tracking ∧ tracking.time.settled ≠ .align ∧ tracking.time.afterNext = none
        ∧ tracking.time.measured = some 2250000)
      ∧ (let s := { tracking with time := { tracking.time with settled := .align } };
        s.time.timing = .tracking ∧ s.time.nextBoundary = some 2250000 ∧ s.time.staged = none)
      ∧ (let s := { tracking with time := tracking.time.meet 1125000 2250000 };
        s.time.settled ≠ .align ∧ s.time.afterNext = some 3375000 ∧ s.time.nextBoundary = some 2227500)
      ∧ (∀ n ∈ [600, 2, 1], ∀ x ∈ [Settled.plain, .held],
        let s := { tracking with time := { tracking.time with timing := .holdover, holdover := n, settled := x } };
        s.time.timing = .holdover ∧ s.time.measured = some 2250000 ∧ s.time.holdover = n ∧ s.time.staged = none)
      ∧ (let s := { busy with time := { busy.time with staged := some (.r50, .input 15) } };
        s.time.nextBoundary = some 2250000 ∧ s.time.staged.isSome = true
          ∧ (after .timingSetupApply s).time.staged = none) := by
  decide +kernel

/-- A boundary of the part in use, at which the tour of window 62 steps; with a take, an assign and a grab that end at
it; with an order of each kind; and with pins to make. -/
theorem test_BoundaryLeavesNothingOver_applies :
    (busy.resetLine = false ∧ busy.time.nextBoundary = some 2250000) ∧ StepsTo busy 62 1 (.still 15)
      ∧ ((busyAsked ⟨1, .assign 0 none⟩).link.table = [] ++ ⟨1, .assign 0 none⟩ :: []
        ∧ (busyAsked ⟨1, .grab 15 14 1⟩).link.table = [] ++ ⟨1, .grab 15 14 1⟩ :: [])
      ∧ (∀ x ∈ [FreezeOrder.on, .off],
        ((busyWindow { frozenWindow with freezeOrder := x }).window 63).freezeOrder = x
          ∧ (busyWindow { frozenWindow with freezeOrder := x }).inLive 63 = true)
      ∧ (let s := { uncomposed with windows := put uncomposed.windows 63 frozenWindow };
        (s.window 63).frozen = true ∧ (s.window 63).shown = .input 15 ∧ s.able 15 = true
          ∧ (s.ring 15).age = [] ++ 93 :: []
          ∧ ([] : List Nat).length = min (min (s.window 63).live.delay (s.unpinned 15 - 3)) ((s.ring 15).age.length - 1)
          ∧ (s.slot 93).pinned = none ∧ s.unpinned 15 < 4) := by
  refine ⟨⟨rfl, rfl⟩, ⟨by decide, by decide +kernel, by decide +kernel, by decide +kernel, by decide +kernel, 1,
    by decide, by decide +kernel, by decide +kernel, by decide +kernel, by decide +kernel, fun d h1 h2 => by omega⟩,
    by decide +kernel, by decide +kernel, by decide +kernel⟩

/-- A unit in OFF; one with a frame in progress; one LOCKED whose frame is stored into slot 94; one that stores none;
one QUALIFYING at K − 1; and lock points of the classes 60 and 25 and an interval of no lock point, the first two for a
time base that follows the input. -/
theorem test_FrameStartBeginsAFrame_applies :
    (busy.resetLine = false ∧ (busy.input 0).state = .off) ∧ (busy.input 15).frame.isSome = true
      ∧ (let s := busyInput { lockedInput with frame := none };
        (s.input 15).state ≠ .off ∧ (s.input 15).frame = none ∧ (s.input 15).state = .locked
          ∧ s.writeSlot 15 = some 94 ∧ s.time.source ≠ .input 15)
      ∧ (let s := busyInput { Input.reset with state := .searching };
        (s.input 15).frame = none ∧ (s.input 15).state ≠ .locked ∧ (s.input 15).state ≠ .suspect
          ∧ (s.input 15).state ≠ .qualifying)
      ∧ (let u := { qualifying.input 5 with frame := none };
        u.state = .qualifying ∧ u.k ≤ u.count + 1 ∧ u.counted = some ⟨1920, 1080, .r50, true⟩
          ∧ (⟨1920, 1080, .r50, true⟩ : Format).supported = true)
      ∧ (∀ x ∈ [(RateClass.r60, 2250000), (RateClass.r25, 5400000), (RateClass.r60, 2227499)],
        let s := { busyInput { lockedInput with frame := none, counted := some ⟨1920, 1080, x.1, true⟩ } with
          time := { following with rate := if x.1 = RateClass.r25 then .r50 else .r60 } };
        (s.input 15).state = .locked ∧ (s.input 15).lastStart = some 0
          ∧ (rateClass (x.2 - 0) = some x.1 ↔ x.2 ≠ 2227499)
          ∧ s.time.source = .input 15 ∧ s.lockPresent = true ∧ s.time.timing = .tracking)
      ∧ (∀ x ∈ [InputState.qualifying, .suspect, .unsupported],
        let s := busyInput { lockedInput with state := x, frame := none, counted := some ⟨1920, 1080, .r25, true⟩ };
        (s.input 15).state ≠ .off ∧ (s.input 15).frame = none ∧ rateClass (5400000 - 0) = some .r25)
      ∧ (let u := { lockedInput with frame := none, midway := some (6750000, 2700000) };
        u.midway.filter (fun m => 6750000 ≤ m.1) = u.midway ∧ u.midway.filter (fun m => 6750001 ≤ m.1) = none) := by
  decide +kernel

/-- The frame in slot 95 of the part in use; and in a unit at the end of its qualification. -/
theorem test_GoodEndCompletesTheSlot_applies :
    (busyIdle.resetLine = false ∧ (busyIdle.input 15).frame = some ⟨1920, 1080, some .r60, true, true⟩
        ∧ (busyIdle.input 15).counted = some ⟨1920, 1080, .r60, true⟩ ∧ (busyIdle.input 15).state = .locked
        ∧ (busyIdle.input 15).count = 0 ∧ (busyIdle.ring 15).slots = [92, 93, 94] ++ 95 :: []
        ∧ (busyIdle.slot 95).state = .filling ∧ (∀ m ∈ [92, 93, 94], (busyIdle.slot m).state ≠ .filling)
        ∧ busyIdle.hasPending (·.isGrabOf 15) = false ∧ busyIdle.time.source ≠ .input 15)
      ∧ ((qualifying.input 5).state = .qualifying ∧ (qualifying.input 5).k ≤ (qualifying.input 5).count + 1
        ∧ (⟨1920, 1080, .r50, true⟩ : Format).supported = true ∧ (qualifying.ring 5).slots = [] ++ 20 :: [21, 22]
        ∧ (qualifying.slot 20).state = .filling) := by
  decide +kernel

theorem test_GrabCompletesAtAGoodEnd_applies :
    busy.resetLine = false ∧ (busy.input 15).frame = some ⟨1920, 1080, some .r60, true, true⟩
      ∧ (busy.input 15).counted = some ⟨1920, 1080, .r60, true⟩ ∧ (busy.input 15).state = .locked
      ∧ (busy.ring 15).slots = [92, 93, 94] ++ 95 :: [] ∧ (busy.slot 95).state = .filling
      ∧ (∀ m ∈ [92, 93, 94], (busy.slot m).state ≠ .filling) ∧ (busy.ring 15).slots.Nodup ∧ 95 ∉ (busy.ring 15).age
      ∧ busy.link.table = [] ++ ⟨7, .grab 15 14 120⟩ :: [] ∧ busy.reservation 15 = some 1
      ∧ busy.still 14 ≠ some 95 ∧ busy.still 14 ≠ some 1 ∧ swapping.still 5 = some 40
      ∧ (let s := { busy with inputs := put busy.inputs 15 { lockedInput with state := .suspect, count := 2 } };
        (s.input 15).state = .suspect ∧ (s.input 15).counted = some ⟨1920, 1080, .r60, true⟩) := by
  decide +kernel

/-- A frame cut short in the part in use, with L = 3 and with L = 1; an expiry; and a unit in OFF. -/
theorem test_BadFramesFollowTheTable_applies :
    (busy.resetLine = false ∧ (busy.input 0).state = .off)
      ∧ ((busy.input 15).state ≠ .off ∧ (busy.input 15).frame = some ⟨1920, 1080, some .r60, true, true⟩
        ∧ 1 ≤ (busy.input 15).l ∧ (busy.ring 15).slots = [92, 93, 94] ++ 95 :: [] ∧ (busy.slot 95).state = .filling
        ∧ (∀ m ∈ [92, 93, 94], (busy.slot m).state ≠ .filling) ∧ busy.reservation 15 ≠ some 95
        ∧ ({ busy.input 15 with frame := none } : Input).afterBad.state ≠ .searching)
      ∧ ({ lockedInput with frame := none, l := 1 } : Input).afterBad.state = .searching
      ∧ (busy.input 15).timer = some 6750000 ∧ busy.time.source ≠ .input 15
      ∧ busy.link.table = [] ++ ⟨7, .grab 15 14 120⟩ :: [] := by
  decide +kernel

/-- The other frame ends of that statement: another format in each state, a count below K, at K with a format that is
supported and with one that is not, and a matching frame that is not stored in SUSPECT, LOCKED and UNSUPPORTED. -/
theorem test_BadFramesFollowTheTable_frame_ends_apply :
    let unit := fun (x : InputState) (g : Option Format) =>
      { lockedInput with state := x, counted := g, frame := some ⟨1920, 1080, some .r60, true, false⟩ };
    (∀ x ∈ [InputState.searching, .qualifying, .locked, .suspect, .unsupported], ∀ g ∈ [none, some ⟨640, 360, .r60, true⟩],
      let u := (busyInput (unit x g)).input 15;
      u.state = x ∧ u.state ≠ .off ∧ u.frame = some ⟨1920, 1080, some .r60, true, false⟩
        ∧ u.counted ≠ some ⟨1920, 1080, .r60, true⟩)
      ∧ (∀ x ∈ [InputState.qualifying, .locked, .suspect, .unsupported],
        ((busyInput (unit x (some hd))).input 15).counted = some ⟨1920, 1080, .r60, true⟩)
      ∧ (∀ c ∈ [3, 4], let u := { unit .qualifying (some hd) with count := c };
        (u.count + 1 < u.k ↔ c = 3) ∧ (u.k ≤ u.count + 1 ↔ c = 4))
      ∧ (hd.supported = true ∧ (⟨1920, 1080, .r60, false⟩ : Format).supported = false) := by
  decide +kernel

/-- R8, R10: a first candidate, and an unsupported format at the lock count. -/
theorem test_frame_ends_qualify :
    let s := busyInput { lockedInput with
      state := .searching, counted := none, timer := none, frame := some ⟨1920, 1080, some .r60, true, false⟩ }
    let q := busyInput { lockedInput with
      state := .qualifying, count := 4, counted := some ⟨1920, 1080, .r60, false⟩
      frame := some ⟨1920, 1080, some .r60, false, false⟩ }
    let t := after (.frameEnd 15 2250000 false []) s
    ((t.input 15).state = .qualifying ∧ (t.input 15).counted = some hd ∧ (t.input 15).count = 1
        ∧ (t.input 15).timer = some 9000000)
      ∧ ((after (.frameEnd 15 2250000 false []) q).input 15).state = .unsupported := by
  decide +kernel

theorem test_EventRequestsFollowTheirRules_applies :
    busy.Ready ∧ (7 < 8 ∧ 11 < 12 ∧ 15 < 16 ∧ 63 < 64 ∧ 254 ≠ 255)
      ∧ ¬((7 : Nat) = 0 ∨ 7 < 7 ∨ ((7 : Nat) = 2 ∧ 11 < 63) ∨ (((7 : Nat) = 3 ∨ (7 : Nat) = 5) ∧ 15 < 63)
        ∨ ((7 : Nat) = 7 ∧ 63 < 63) ∨ (((7 : Nat) = 1 ∨ (7 : Nat) = 4 ∨ (7 : Nat) = 6) ∧ (63 : Nat) ≠ 255))
      ∧ ([1, 0, 1, 0, 1, 0, 1].length = 7 ∧ [0, 1, 0, 1].length = 4 ∧ ∀ x ∈ [1, 0, 1, 0, 1, 0, 1] ++ [0, 1, 0, 1], x ≤ 1) :=
  ⟨ready_busy, by decide, by decide, by decide⟩

/-- The receiver in each of its states, at the ends of the lengths. -/
theorem test_ReceiverFollowsItsStates_applies :
    let at_ := fun (r : Receiver) => { State.reset with link := { Link.reset with receiver := r, gap := some 1350000 } };
    (State.reset.resetLine = false ∧ State.reset.link.resetting = false ∧ State.reset.link.receiver = .hunting
        ∧ (0x7D : Byte) ≠ 0x7E)
      ∧ ((at_ .length).link.receiver = .length ∧ 2 ≤ (2 : Byte).toNat ∧ (250 : Byte).toNat ≤ 250
        ∧ ((1 : Byte).toNat < 2 ∨ 250 < (251 : Byte).toNat))
      ∧ ((at_ (.body 2 [])).link.receiver = .body 2 [] ∧ ([] : List Byte).length + 1 < 2)
      ∧ ((at_ (.body 2 [5])).link.receiver = .body 2 [5] ∧ ([5] : List Byte).length + 1 = 2)
      ∧ (at_ (.check 2 [5, 0x3F] none)).link.receiver = .check 2 [5, 0x3F] none
      ∧ ((at_ (.check 2 [5, 0x3F] (some 0))).link.receiver = .check 2 [5, 0x3F] (some 0)
        ∧ (2 % 256 + (([5, 0x3F] : List Byte).map BitVec.toNat).sum) % 65536 ≠ 256 * (0 : Byte).toNat + (71 : Byte).toNat)
      ∧ (at_ .length).link.gap = some 1350000 := by
  decide +kernel

/-- A frame whose check agrees, of each outcome: discarded, waiting, an overrun, refused, and taken as a request. -/
theorem test_ReceiverFollowsItsStates_frames_apply :
    let at_ := fun (l : Link) => ({ State.reset with link := { l with receiver := .check 2 [5, 0x3F] (some 0) } } : State);
    (2 % 256 + (([5, 0x3F] : List Byte).map BitVec.toNat).sum) % 65536 = 256 * (0 : Byte).toNat + (70 : Byte).toNat
      ∧ (let s := at_ { Link.reset with resetting := true }; s.link.resetting = true ∧ s.link.queue = [])
      ∧ (∀ q ∈ [3, 4], let s := at_ { Link.reset with
          replies := List.replicate 24 ⟨1, 0x24, .done, []⟩, queue := List.replicate q ⟨1, 0x24, [0]⟩ };
        s.link.resetting = false ∧ 24 ≤ s.link.reserved + s.link.replies.length ∧ s.link.queue.length = q)
      ∧ (∃ c, askedOf ⟨5, 0x3F, []⟩ = .command c) ∧ askedOf ⟨5, 0x80, []⟩ = .refused .unknownKind
      ∧ (at_ Link.reset).Ready :=
  ⟨by decide, ⟨rfl, rfl⟩, by decide +kernel, ⟨_, rfl⟩, by decide, ⟨rfl, rfl, rfl, by decide⟩⟩

/-- The transmitter busy; with a reply; with a reply and a refused frame behind a full queue; with a report; with
none. -/
theorem test_TransmitterServesRepliesFirst_applies :
    (resetDue.resetLine = false ∧ resetDue.link.sending = some (.reply ⟨9, 0x3F, .done, []⟩))
      ∧ (let s := { State.reset with link := { Link.reset with replies := [⟨1, 0x24, .done, []⟩] } };
        s.link.sending = none ∧ s.link.queue = [] ∧ s.link.replies = ⟨1, 0x24, .done, []⟩ :: [])
      ∧ (let s := { State.reset with link := { Link.reset with
          queue := [⟨3, 0x22, []⟩], replies := ⟨1, 0x24, .done, []⟩ :: List.replicate 23 ⟨2, 0x24, .done, []⟩ } };
        s.link.sending = none ∧ s.link.reserved + (List.replicate 23 (⟨2, 0x24, .done, []⟩ : Reply)).length < 24
          ∧ askedOf ⟨3, 0x22, []⟩ = .refused .badLength)
      ∧ (State.reset.link.sending = none ∧ State.reset.link.replies = []
        ∧ State.reset.events.entries = [] ++ ⟨.restart .line, 1, false⟩ :: []
        ∧ State.reset.events.masked 0 = false)
      ∧ (held.link.sending = none
        ∧ ∀ y ∈ (after .transmitStart State.reset).events.entries, y.reported = true) := by
  decide +kernel

/-- A waiting request alone, and before three others where its place is the only one; and, during a Device Reset, the
end of a reply that is not its DONE. -/
theorem test_TransmitterServesRepliesFirst_requests_apply :
    let query : Frame := ⟨7, 0x24, [0]⟩;
    (let s := { State.reset with link := { Link.reset with queue := [query], replies := [⟨1, 0x24, .done, []⟩] } };
      s.link.sending = none ∧ s.link.reserved + ([] : List Reply).length < 24 ∧ s.link.resetting = false
        ∧ askedOf query = .command (.windowQuery 7 0))
      ∧ (let s := { State.reset with link := { Link.reset with
          reserved := 14, replies := List.replicate 10 ⟨1, 0x24, .done, []⟩, queue := query :: List.replicate 3 query } };
        s.link.sending = none ∧ s.link.reserved + (List.replicate 9 (⟨1, 0x24, .done, []⟩ : Reply)).length = 23
          ∧ s.link.resetting = false ∧ (∀ tag, Instr.windowQuery 7 0 ≠ .deviceReset tag)
          ∧ askedOf ⟨3, 0x22, []⟩ = .refused .badLength)
      ∧ (let s := { resetDue with link := { resetDue.link with sending := some (.reply ⟨8, 0x12, .done, []⟩) } };
        s.resetLine = false ∧ s.link.resetting = true
          ∧ ∀ r, Outgoing.reply ⟨8, 0x12, .done, []⟩ = .reply r → r.kind = 0x3F → r.status ≠ .done) := by
  refine ⟨by decide +kernel, ⟨by decide +kernel, by decide +kernel, by decide +kernel, nofun, by decide +kernel⟩,
    rfl, rfl, ?_⟩
  rintro r ⟨⟩
  decide

end Sys2Proof.Tests
end

section
/-! ### Requests at a ready link

What a request leaves of a ready link when one of its checks fails: the reply, and nothing else (R150, R151). -/

namespace Sys2Proof.Machine

variable {s : State} {tag kind : Byte} {status : Status}

/-- A request that its owner answers at once with a status leaves that reply and nothing else (R150, R151). -/
theorem request_answered (h : s.Ready) {c : Instr} {f : State → State}
    (hf : f (reservePlace s) = answer tag kind status (reservePlace s)) :
    whenRunning s (arrive c f) = .next (s.replied tag kind status []) := by
  rw [request_ready h, hf, answer_reserved]

/-- A query that its owner answers with data leaves that reply and nothing else (R150, R151). -/
theorem request_answeredData (h : s.Ready) {c : Instr} {f : State → State} {data : List Byte}
    (hf : f (reservePlace s) = answerData tag kind data (reservePlace s)) :
    whenRunning s (arrive c f) = .next (s.replied tag kind .done data) := by
  rw [request_ready h, hf, answerData_reserved]

/-- The first check of Input Setup that fails gives the reply (R18). -/
theorem inputSetup_refused (h : s.Ready) {p : InputSetupFields} (hc : checkInputSetup p s = some status) :
    exec (.inputSetup tag p) s = .next (s.replied tag 0x10 status []) :=
  request_answered h (by
    have hr : checkInputSetup p (reservePlace s) = some status := hc
    simp only [requestInputSetup, hr])

/-- The first check of Input Reset that fails gives the reply (R20). -/
theorem inputReset_refused (h : s.Ready) {i : Nat} (hc : checkInputReset i s = some status) :
    exec (.inputReset tag i) s = .next (s.replied tag 0x11 status []) :=
  request_answered h (by
    have hr : checkInputReset i (reservePlace s) = some status := hc
    simp only [requestInputReset, hr])

/-- The first check of Still Grab that fails gives the reply (R33). -/
theorem stillGrab_refused (h : s.Ready) {i e : Nat} (hc : checkGrab i e s = some status) :
    exec (.stillGrab tag i e) s = .next (s.replied tag 0x18 status []) :=
  request_answered h (by
    have hr : checkGrab i e (reservePlace s) = some status := hc
    simp only [requestGrab, hr])

/-- The first check of Window Freeze that fails gives the reply (R106). -/
theorem windowFreeze_refused (h : s.Ready) {w f : Nat} (hc : checkFreeze w f s = some status) :
    exec (.windowFreeze tag w f) s = .next (s.replied tag 0x23 status []) :=
  request_answered h (by
    have hr : checkFreeze w f (reservePlace s) = some status := hc
    simp only [requestFreeze, hr])

/-- The first check of a FRAME take that fails gives the reply (R97). -/
theorem sceneTakeFrame_refused (h : s.Ready) {k : Nat} (hc : checkTake k true s = some status) :
    exec (.sceneTakeFrame tag k) s = .next (s.replied tag 0x29 status []) :=
  request_answered h (by
    have hr : checkTake k true (reservePlace s) = some status := hc
    simp only [requestTakeFrame, hr])

/-- The first check of a NOW take that fails gives the reply (R97). -/
theorem sceneTakeNow_refused (h : s.Ready) {k : Nat} (hc : checkTake k false s = some status) :
    exec (.sceneTakeNow tag k) s = .next (s.replied tag 0x29 status []) :=
  request_answered h (by
    have hr : checkTake k false (reservePlace s) = some status := hc
    simp only [requestTakeNow, hr])

/-- The first check of a FRAME assign that fails gives the reply (R139). -/
theorem portAssignFrame_refused (h : s.Ready) {n k : Nat} (hc : checkAssign n k true s = some status) :
    exec (.portAssignFrame tag n k) s = .next (s.replied tag 0x31 status []) :=
  request_answered h (by
    have hr : checkAssign n k true (reservePlace s) = some status := hc
    simp only [requestAssignFrame, hr])

/-- The first check of a NOW assign that fails gives the reply (R139). -/
theorem portAssignNow_refused (h : s.Ready) {n k : Nat} (hc : checkAssign n k false s = some status) :
    exec (.portAssignNow tag n k) s = .next (s.replied tag 0x31 status []) :=
  request_answered h (by
    have hr : checkAssign n k false (reservePlace s) = some status := hc
    simp only [requestAssignNow, hr])

/-! #### The ranges -/

/-- The ranges of Table 1.4 (R18 (1)). -/
theorem inputSetupOk_iff (p : InputSetupFields) : inputSetupOk p = true ↔
    p.input ≤ 15 ∧ p.enable ≤ 1 ∧ 3 ≤ p.ring ∧ p.ring ≤ 8 ∧ 2 ≤ p.k ∧ p.k ≤ 15 ∧ 1 ≤ p.l ∧ p.l ≤ 15 ∧ p.subst ≤ 3
      ∧ p.still ≤ 15 ∧ p.colour.y ≤ 1023 ∧ p.colour.cb ≤ 1023 ∧ p.colour.cr ≤ 1023 := by
  simp [inputSetupOk, within, colourOk, and_assoc]

/-- The ranges of Table 8.3 (R131). -/
theorem portSetupOk_iff (p : PortSetupFields) : portSetupOk p = true ↔
    p.port ≤ 11 ∧ p.enable ≤ 1 ∧ p.depth ≤ 1 ∧ p.range ≤ 1 ∧ p.protectA ≤ 1 ∧ p.protectB ≤ 1 ∧ p.action ≤ 2
      ∧ p.index ≤ 15 ∧ p.restart ≤ 1 := by
  simp [portSetupOk, and_assoc]
  omega

/-- A scene of Port Assign that is neither a scene number nor H'FF fails the first check, and so does a port that the
part lacks (R139). -/
theorem checkAssign_range {n k : Nat} (frame : Bool) (h : 11 < n ∨ (15 < k ∧ k ≠ 255)) :
    checkAssign n k frame s = some .range := by
  simp only [checkAssign]
  rw [if_pos (by simpa using h)]

/-- A freeze of a window that the part lacks, or a code above 1, fails the first check (R106). -/
theorem checkFreeze_range {w f : Nat} (h : 63 < w ∨ 1 < f) : checkFreeze w f s = some .range := by
  simp only [checkFreeze]
  rw [if_pos (by simpa using h)]

/-- An enable or a mask above 1 is out of range (R160). -/
theorem requestEventEnable_range {es ms : List Nat} (h : ∃ x ∈ es ++ ms, 1 < x) :
    requestEventEnable tag es ms s = answer tag 0x3A .range s := by
  obtain ⟨x, hx, h1⟩ := h
  have bad : (es.all (· ≤ 1) && ms.all (· ≤ 1)) = false := by
    rw [← List.all_append, List.all_eq_false]
    exact ⟨x, hx, by simpa using h1⟩
  simp [requestEventEnable, bad]

/-! #### The checks after the ranges -/

/-- A window outside the live list of its scene fails the second check of Window Freeze (R106). -/
theorem checkFreeze_state {w f : Nat} (hw : w ≤ 63) (hf : f ≤ 1)
    (h : ∀ j, (s.window w).binding = some j → w ∉ (s.scene j).liveList) : checkFreeze w f s = some .state := by
  have out : s.inLive w = false := by
    unfold State.inLive
    split
    · rename_i j hj
      simpa using h j hj
    · rfl
  simp [checkFreeze, Nat.not_lt.2 hw, Nat.not_lt.2 hf, out]

/-- A freeze of a window that moves towards an enabled input with three unpinned slots left fails the third check
(R106). -/
theorem checkFreeze_noSlots {w j i : Nat} (hw : w ≤ 63) (hb : (s.window w).binding = some j)
    (hl : w ∈ (s.scene j).liveList) (hz : (s.window w).frozen = false) (ht : (s.window w).target = .input i)
    (ho : (s.input i).state ≠ .off) (hu : s.unpinned i < 4) : checkFreeze w 1 s = some .noSlots := by
  have live : s.inLive w = true := by simp [State.inLive, hb, hl]
  simp [checkFreeze, Nat.not_lt.2 hw, live, hz, ht, ho, hu]

/-- The table with 16 entries in use is full (R153). -/
theorem tableFull_iff : s.tableFull = true ↔ 16 ≤ s.link.table.length := by
  simp [State.tableFull]

/-- An accepted scene number, or H'FF, passes the first check of Port Assign (R139). -/
theorem checkAssign_busy {n k : Nat} {frame : Bool} (hn : n ≤ 11) (hk : k ≤ 15 ∨ k = 255)
    (h : s.hasPending (·.isAssignOf n) = true ∨ (frame = true ∧ s.tableFull = true)) :
    checkAssign n k frame s = some .busy := by
  have inRange : ¬(11 < n ∨ (15 < k ∧ k ≠ 255)) := by omega
  simp only [checkAssign]
  rw [if_neg (by simpa using inRange)]
  rcases h with h | ⟨rfl, h⟩ <;> simp [h]

/-! #### The statements -/

/-- Settles O25: each request is answered by its first check. -/
theorem fieldsOutOfRangeAnswerRange : Obligations.FieldsOutOfRangeAnswerRange := by
  refine ⟨inputSetupOk_iff, portSetupOk_iff, fun tag s h => ⟨fun p hp => ?_, fun i hi => ?_, fun i c hx => ?_,
    fun i e hx => ?_, fun e he => ?_, fun v i hx => ?_, fun w f hx => ?_, fun w hw => ?_, fun k hk => ?_,
    fun k hk => ?_, fun k hk => ?_, fun p hp => ?_, fun n k hx => ?_, fun n k hx => ?_, fun n hn => ?_,
    fun es ms hx => ?_, fun c hc => ?_⟩⟩
  · exact inputSetup_refused h (by simp [checkInputSetup, hp])
  · exact inputReset_refused h (by simp [checkInputReset, hi])
  · exact request_answered h (by
      rw [requestInputQuery, if_neg (by simp only [Bool.and_eq_true, decide_eq_true_eq]; omega)])
  · exact stillGrab_refused h (by simp only [checkGrab]; rw [if_pos (by simpa using hx)])
  · exact request_answered h (by simp [requestDrop, he])
  · exact request_answered h (by
      rw [requestStoreQuery, if_neg (by simp only [Bool.and_eq_true, decide_eq_true_eq]; omega)])
  · exact windowFreeze_refused h (checkFreeze_range hx)
  · exact request_answered h (by rw [requestWindowQuery, if_neg (by omega)])
  · exact sceneTakeFrame_refused h (by simp [checkTake, hk])
  · exact sceneTakeNow_refused h (by simp [checkTake, hk])
  · exact request_answered h (by rw [requestSceneQuery, if_neg (by omega)])
  · exact request_answered h (by simp [requestPortSetup, hp])
  · exact portAssignFrame_refused h (checkAssign_range true hx)
  · exact portAssignNow_refused h (checkAssign_range false hx)
  · exact request_answered h (by rw [requestPortQuery, if_neg (by omega)])
  · exact request_answered h (requestEventEnable_range hx)
  · exact request_answered h (by rw [requestDeviceQuery, if_neg (by omega)])

/-- Settles O26: each request is answered by the first check that fails. -/
theorem failedChecksChangeNothing : Obligations.FailedChecksChangeNothing := by
  refine fun tag s h => ⟨fun p hp => ⟨fun hb => ?_, fun hb ho he hr => ?_, fun hb ho he hr => ?_⟩,
    fun i hi => ⟨fun ho => ?_, fun ho hb => ?_⟩,
    fun i e hi he => ⟨fun hl => ?_, fun hl hb => ?_, fun hl hg hd ht hf => ?_⟩, fun e he hb => ?_,
    fun w f hw hf => ⟨fun hx => ?_, fun j i hb hl hf hz ht ho hu => ?_⟩, fun k hk hp => ?_, fun k hk ht => ?_,
    fun n k hn hk hb => ?_, fun n k hn hk ht => ?_⟩
  · exact inputSetup_refused h (by simp [checkInputSetup, hp, hb])
  · exact inputSetup_refused h (by simp [checkInputSetup, hp, hb, ho, he, hr])
  · exact inputSetup_refused h (by simp [checkInputSetup, hp, hb, ho, he, hr])
  · exact inputReset_refused h (by simp [checkInputReset, Nat.not_lt.2 hi, ho])
  · exact inputReset_refused h (by
      rw [← tableFull_iff] at hb
      simp [checkInputReset, Nat.not_lt.2 hi, ho, hb])
  · exact stillGrab_refused h (by simp [checkGrab, Nat.not_lt.2 hi, Nat.not_lt.2 he, hl])
  · exact stillGrab_refused h (by
      rw [← tableFull_iff] at hb
      simp [checkGrab, Nat.not_lt.2 hi, Nat.not_lt.2 he, hl, or_assoc, hb])
  · exact stillGrab_refused h (by
      have room : s.tableFull = false := by simp [State.tableFull, ht]
      simp [checkGrab, Nat.not_lt.2 hi, Nat.not_lt.2 he, hl, hg, hd, room, hf])
  · exact request_answered h (by
      have busy : (reservePlace s).hasPending (·.isGrabInto e) = true := hb
      simp [requestDrop, Nat.not_lt.2 he, busy])
  · exact windowFreeze_refused h (checkFreeze_state hw hf hx)
  · subst hf
    exact windowFreeze_refused h (checkFreeze_noSlots hw hb hl hz ht ho hu)
  · exact ⟨sceneTakeFrame_refused h (by simp [checkTake, Nat.not_lt.2 hk, hp]),
      sceneTakeNow_refused h (by simp [checkTake, Nat.not_lt.2 hk, hp])⟩
  · exact sceneTakeFrame_refused h (by simp [checkTake, Nat.not_lt.2 hk, tableFull_iff.2 ht])
  · exact ⟨portAssignFrame_refused h (checkAssign_busy hn hk (.inl hb)),
      portAssignNow_refused h (checkAssign_busy hn hk (.inl hb))⟩
  · exact portAssignFrame_refused h (checkAssign_busy hn hk (.inr ⟨rfl, tableFull_iff.2 ht⟩))

end Sys2Proof.Machine
end

section
/-! ### The state right after a reset -/

namespace Sys2Proof.Machine

/-! #### What each bank reads as (Tables 1.1, 2.1, 3.1, 8.1; R27, R32, R79, R78) -/

@[simp] theorem reset_input (i : Nat) : State.reset.input i = Input.reset := by
  by_cases h : i < 16
  · exact look_replicate _ _ h
  · exact look_outside _ _ (Nat.le_of_not_lt h)
@[simp] theorem reset_slot (n : Nat) : State.reset.slot n = Slot.reset := by
  by_cases h : n < 96
  · exact look_replicate _ _ h
  · exact look_outside _ _ (Nat.le_of_not_lt h)
@[simp] theorem reset_ring (i : Nat) : State.reset.ring i = Ring.reset := by
  by_cases h : i < 16
  · exact look_replicate _ _ h
  · exact look_outside _ _ (Nat.le_of_not_lt h)
@[simp] theorem reset_still (e : Nat) : State.reset.still e = none := by
  by_cases h : e < 16
  · exact look_replicate _ _ h
  · exact look_outside _ _ (Nat.le_of_not_lt h)
@[simp] theorem reset_reservation (i : Nat) : State.reset.reservation i = none := by
  by_cases h : i < 16
  · exact look_replicate _ _ h
  · exact look_outside _ _ (Nat.le_of_not_lt h)
@[simp] theorem reset_pin (w : Nat) : State.reset.pin w = none := by
  by_cases h : w < 64
  · exact look_replicate _ _ h
  · exact look_outside _ _ (Nat.le_of_not_lt h)
@[simp] theorem reset_scene (k : Nat) : State.reset.scene k = Scene.reset := by
  by_cases h : k < 16
  · exact look_replicate _ _ h
  · exact look_outside _ _ (Nat.le_of_not_lt h)
@[simp] theorem reset_window (w : Nat) : State.reset.window w = Window.reset := by
  by_cases h : w < 64
  · exact look_replicate _ _ h
  · exact look_outside _ _ (Nat.le_of_not_lt h)
@[simp] theorem reset_port (p : Nat) : State.reset.port p = Port.reset := by
  by_cases h : p < 12
  · exact look_replicate _ _ h
  · exact look_outside _ _ (Nat.le_of_not_lt h)

/-- Right after a reset no scene is displayed (R130, R141). -/
theorem reset_displayed (k : Nat) : State.reset.displayed k = false := by
  have all : ∀ p ∈ State.reset.ports.toList, p = Port.reset := by
    intro p hp
    simpa [State.reset] using hp
  simp only [State.displayed, List.any_eq_false]
  intro p hp
  simp [all p hp, Port.displays, Port.reset]

/-- Right after a reset no level is masked (R164). -/
theorem reset_masked (level : Nat) : State.reset.events.masked level = false := by
  by_cases h : level < 4
  · exact look_replicate _ _ h
  · exact look_outside _ _ (Nat.le_of_not_lt h)

/-- Right after a reset every kind but TOUR STEP is enabled (R164). -/
theorem reset_enabled {code : Nat} (h1 : 1 ≤ code) (h6 : code ≤ 6) : State.reset.events.enabled code = true := by
  interval_cases code <;> rfl

/-! #### The invariants at reset -/

/-- A capture unit as a reset leaves it is sound (Table 1.1). -/
theorem inputSound_reset : InputSound Input.reset where
  settings := by decide
  off _ := ⟨rfl, rfl, rfl⟩
  unqualified _ := ⟨rfl, rfl⟩
  qualified h := absurd rfl h
  counting h := by rcases h with h | h <;> cases h
  still _ _ := rfl
  midway _ _ h := by cases h

/-- The default copy of a window is sound (R78). -/
theorem configSound_reset : ConfigSound WindowConfig.reset where
  tour h := by cases h
  dwell := by decide
  opacity := Nat.le_refl _
  border := Nat.zero_le _
  delay := Nat.zero_le _
  fill _ h := by cases h
  mix _ h := by cases h

/-- The link interface at reset (R157). -/
theorem linkBounded_reset : LinkBounded State.reset where
  queue := Nat.zero_le _
  places := Nat.zero_le _
  reserved := rfl
  table := Nat.zero_le _
  errors := Nat.zero_le _
  emptied h := by cases h
  single := .nil
  flags _ k _ := by
    rw [reset_scene]
    exact ⟨fun h => (by cases h), fun h => (by cases h)⟩

/-- The pending set at reset holds the RESTART entry (R164). -/
theorem pendingSetOrdered_reset : PendingSetOrdered State.reset where
  single := List.pairwise_singleton _ _
  sorted := List.pairwise_singleton _ _
  fits := by decide
  counts := by decide
  reported := by decide

/-- Every port is DISABLED at reset (R130). -/
theorem portCausesFollowLines_reset : PortCausesFollowLines State.reset where
  sound p _ := by constructor <;> simp [Port.reset, Port.noCause]
  held h := by cases h

/-- The time base at reset (Table 4.1). -/
theorem timingSound_reset : TimingSound State.reset where
  counting h := by cases h
  still _ := rfl
  free _ := rfl
  present h := absurd rfl h
  reference h := by cases h
  scheduled _ := rfl
  band _ h := by cases h
  held h := by cases h
  followed h := by cases h
  began := Nat.le_refl _
  spaced _ b h := by cases h; decide

/-- The scene tables at reset (R78, R79). -/
theorem sceneTablesSound_reset : SceneTablesSound State.reset where
  staged k _ := by simp [Scene.reset]
  live k _ := by simp [Scene.reset]
  copies w _ := by rw [reset_window]; exact ⟨configSound_reset, configSound_reset⟩
  moving w _ := by
    rw [reset_window]
    exact ⟨fun _ _ h => (by cases h), fun _ _ _ _ h => (by cases h)⟩
  idle w _ _ := by simp [Window.reset]
  frozen w _ h := by simp [Window.reset] at h
  unbound w _ _ := reset_window w

/-- The frame store at reset: every slot is FREE and every collection empty (Table 2.1, R27, R32). -/
theorem storeSound_reset : StoreSound State.reset where
  placed n _ := by simp [SlotPlaced, Slot.reset]
  rings i _ := by simp [Ring.reset]
  stills e n h := by simp at h
  reservations i n h := by simp at h
  offs i _ := by simp [Input.reset, Ring.reset]
  lengths i _ h := by simp [Ring.reset] at h
  held n _ h := by simp [Slot.reset] at h
  claims n _ := by simp [Slot.reset]
  filling i _ m n hm := by simp [Ring.reset] at hm
  writing i _ n hn := by simp [Ring.reset] at hn
  ages i _ := by simp [Ring.reset]
  fresh i _ := by simp [Ring.reset]
  aged i _ n hn := by simp [Ring.reset] at hn
  spare i _ h := by simp [Ring.reset] at h
  pins w n h := by simp at h
  pinned n _ w h := by simp [Slot.reset] at h
  grabs e h := by cases h
  single _ := Nat.zero_le _
  granted _ h := by cases h
  asked _ i h := by simp at h

/-- No slot holds a frame at reset (Table 2.1). -/
theorem storedFramesSound_reset : StoredFramesSound State.reset where
  formats n _ f h := by simp [Slot.reset] at h
  locked i _ h := by simp [Input.reset] at h
  pictures n _ := reset_pictures_canonical n

/-- The default copy of a window is black (R78). -/
theorem coloursInRange_config_reset : WindowConfig.reset.coloursInRange := by
  constructor <;> rfl

/-- Every colour at reset is black (R17, R78, R79). -/
theorem coloursInRange_reset : ColoursInRange State.reset where
  pictures n := by simp [Slot.reset]
  substitutes i := by rw [reset_input]; rfl
  choices e h := by cases h
  scenes k := by rw [reset_scene]; exact ⟨rfl, rfl⟩
  windows w := by rw [reset_window]; exact ⟨coloursInRange_config_reset, coloursInRange_config_reset⟩

/-! #### The statements -/

/-- Settles O16: each invariant at reset. -/
theorem resetMeetsEveryInvariant : Obligations.ResetMeetsEveryInvariant :=
  ⟨linkBounded_reset, pendingSetOrdered_reset, portCausesFollowLines_reset,
    fun i _ => (reset_input i).symm ▸ inputSound_reset, timingSound_reset, fun c h => (by cases h),
    sceneTablesSound_reset, storeSound_reset, storedFramesSound_reset, coloursInRange_reset⟩

/-- Settles O5: each table's reset column, bank by bank. -/
theorem resetStateHoldsTheTables : Obligations.ResetStateHoldsTheTables := by
  refine ⟨fun i _ => ?inputs, fun n _ => ?slots, fun w _ => ?windows, fun k _ => ?scenes, fun p _ => ?ports,
    rfl, rfl, rfl, rfl, rfl, rfl, rfl, rfl, rfl, rfl, rfl, rfl, rfl, rfl, rfl, rfl, rfl, rfl,
    fun code => reset_enabled, rfl, reset_masked, rfl⟩
  case inputs => simp [Input.reset, Ring.reset]
  case slots => simp [Slot.reset]
  case windows => simp [Window.reset, WindowConfig.reset]
  case scenes => exact ⟨reset_scene k, reset_displayed k⟩
  case ports => simp [Port.reset, Port.noCause]

end Sys2Proof.Machine
end

section
/-! ### What an event can make of a capture unit

`UnitMove` lists the ways in which a command can change a capture unit; soundness of the unit (Table 1.1) and the rule
that an input locks on a supported format only (R10) are each kept by every one of them. -/

namespace Sys2Proof.Machine

variable {u v : Input}

/-! #### The input state machine keeps a unit sound (Table 1.3) -/

/-- The counters are no part of soundness (R16). -/
theorem InputSound.countBad (h : InputSound u) : InputSound u.countBad :=
  ⟨h.settings, h.off, h.unqualified, h.qualified, h.counting, h.still, h.midway⟩

theorem InputSound.countLoss (h : InputSound u) : InputSound u.countLoss :=
  ⟨h.settings, h.off, h.unqualified, h.qualified, h.counting, h.still, h.midway⟩

/-- SEARCHING is entered with no counted format, count 0 and the timer stopped (R6, R8). -/
theorem InputSound.toSearching (h : InputSound u) : InputSound u.toSearching where
  settings := h.settings
  off h := by cases h
  unqualified _ := ⟨rfl, rfl⟩
  qualified _ h := absurd rfl h
  counting h := by rcases h with h | h <;> cases h
  still _ _ := rfl
  midway _ _ h := by cases h

/-- A frame in progress may end at any time. -/
theorem InputSound.withoutFrame (h : InputSound u) : InputSound { u with frame := none } :=
  ⟨h.settings, fun ho => ⟨rfl, (h.off ho).2⟩, h.unqualified, h.qualified, h.counting, h.still, h.midway⟩

/-- A running timer may restart (R6). -/
theorem InputSound.restarted (h : InputSound u) (ht : u.timer.isSome = true) (t : Ticks) :
    InputSound { u with timer := some t } where
  settings := h.settings
  off := h.off
  unqualified hs := by simp [(h.unqualified hs).2] at ht
  qualified h1 h2 := ⟨(h.qualified h1 h2).1, rfl⟩
  counting := h.counting
  still := h.still
  midway := h.midway

/-- A midway instant may pass (R64). -/
theorem InputSound.withoutMidway (h : InputSound u) : InputSound { u with midway := none } :=
  ⟨h.settings, fun ho => ⟨(h.off ho).1, (h.off ho).2.1, rfl⟩, h.unqualified, h.qualified, h.counting, h.still,
    fun _ _ hm => by cases hm⟩

/-- Between states with a counted format and a running timer only the count has to fit the state (R9 to R12). -/
theorem InputSound.moved (h : InputSound u) (hu : u.state ≠ .off ∧ u.state ≠ .searching) {x : InputState} {n : Nat}
    (hx : x ≠ .off ∧ x ≠ .searching) (hc : x = .qualifying ∨ x = .suspect → 1 ≤ n ∧ n ≤ 15)
    (h0 : x ≠ .qualifying → x ≠ .suspect → n = 0) : InputSound { u with state := x, count := n } where
  settings := h.settings
  off ho := absurd ho hx.1
  unqualified ho := ho.elim (absurd · hx.1) (absurd · hx.2)
  qualified _ _ := h.qualified hu.1 hu.2
  counting := hc
  still := h0
  midway := h.midway

/-- A bad-frame event keeps a unit sound (R9, R11 to R13). -/
theorem InputSound.bad (h : InputSound u) : InputSound u.bad := by
  obtain ⟨-, -, hl, hl', -, -⟩ := h.settings
  unfold Input.bad
  split
  case h_1 | h_2 => exact h
  case h_3 | h_6 => exact h.countBad.toSearching
  case h_4 hs =>
    split
    · exact h.countBad.countLoss.toSearching
    · exact (h.countBad.moved (by simp [Input.countBad, hs]) (by simp) (by simp) (by simp)).withoutMidway
  case h_5 hs =>
    split
    · exact h.countBad.countLoss.toSearching
    · have := h.countBad.moved (x := .suspect) (n := u.count + 1) (by simp [Input.countBad, hs]) (by simp)
        (fun _ => by omega) (by simp)
      rw [← hs] at this
      exact this

/-- A matching frame keeps a unit sound (R10 to R13). -/
theorem InputSound.matched (h : InputSound u) : InputSound u.matched := by
  obtain ⟨hk, hk', -, -, -, -⟩ := h.settings
  unfold Input.matched
  split
  case h_5 hs => exact h.moved (by simp [hs]) (by simp) (by simp) (by simp)
  case h_6 hs =>
    split
    · refine h.moved (by simp [hs]) ?_ ?_ (fun _ _ => rfl) <;> split <;> simp
    · have := h.moved (x := .qualifying) (n := u.count + 1) (by simp [hs]) (by simp) (fun _ => by omega) (by simp)
      rw [← hs] at this
      exact this
  all_goals exact h

/-- A candidate keeps a unit sound (R8, R9). -/
theorem InputSound.candidate (h : InputSound u) (f : Format) (now : Ticks) : InputSound (u.candidate f now) := by
  unfold Input.candidate
  split
  case h_1 hs =>
    have none : u.counted = none := (h.unqualified (.inr hs)).1
    exact {
      settings := h.settings
      off := fun ho => by cases ho
      unqualified := fun ho => by rcases ho with ho | ho <;> cases ho
      qualified := fun _ _ => ⟨rfl, rfl⟩
      counting := fun _ => ⟨Nat.le_refl 1, Nat.le_of_ble_eq_true rfl⟩
      still := fun ho => absurd rfl ho
      midway := fun t half hm => by
        obtain ⟨g, hg, -⟩ := h.midway t half hm
        simp [none] at hg }
  case h_2 hs =>
    exact {
      settings := h.settings
      off := fun ho => by simp [Input.countBad, hs] at ho
      unqualified := fun ho => by simp [Input.countBad, hs] at ho
      qualified := fun h1 h2 => ⟨rfl, (h.qualified h1 h2).2⟩
      counting := fun _ => ⟨Nat.le_refl 1, Nat.le_of_ble_eq_true rfl⟩
      still := fun ho => by simp [Input.countBad, hs] at ho
      midway := fun _ _ hm => by cases hm }
  all_goals exact h

/-- A frame of another format keeps a unit sound (R8, R9, R11 to R13). -/
theorem InputSound.other (h : InputSound u) (f : Format) (now : Ticks) : InputSound (u.other f now) := by
  unfold Input.other
  split
  case h_1 => exact h
  case h_2 | h_3 => exact h.candidate f now
  all_goals exact h.bad

/-- A judged frame end keeps a unit sound (Table 1.3). -/
theorem InputSound.judged (h : InputSound u) (f : FrameInProgress) (j : Judgement) (now : Ticks) :
    InputSound (u.judged f j now) := by
  unfold Input.judged
  split
  · exact h.bad
  · exact h.matched
  · exact h.other _ now
  · exact h

/-! #### Frame starts, settings and resets keep a unit sound -/

/-- The band of a rate class that brings a midway instant (Table 1.2). -/
theorem rateClass_band {x : Ticks} {r : RateClass} (h : rateClass x = some r) (hr : r = .r25 ∨ r = .r30) :
    (r = .r25 ∧ 39600 * 135 ≤ x ∧ x ≤ 40400 * 135) ∨ (r = .r30 ∧ 33000 * 135 ≤ x ∧ x ≤ 33700 * 135) := by
  unfold rateClass at h
  unfold Ticks at *
  split at h
  · cases h; simp at hr
  split at h
  · rename_i hb
    cases h
    simp only [inBand, Config.us, Bool.and_eq_true, decide_eq_true_eq] at hb
    exact .inl ⟨rfl, by omega⟩
  split at h
  · rename_i hb
    cases h
    simp only [inBand, Config.us, Bool.and_eq_true, decide_eq_true_eq] at hb
    exact .inr ⟨rfl, by omega⟩
  split at h
  · cases h; simp at hr
  split at h
  · cases h; simp at hr
  · cases h

/-- A frame start leaves a unit that is not OFF sound; the half interval of its midway instant is half of one in the
band of the counted class (R2, R3, R6, R64). -/
theorem InputSound.started (h : InputSound u) (ho : u.state ≠ .off) (f : FrameInProgress) (interval : Option Ticks)
    (start : Ticks) :
    InputSound { u with
      lastStart := some start, timer := u.timer.map fun _ => start + Config.missingFrame, frame := some f
      midway := u.midwayAfter interval start } where
  settings := h.settings
  off hs := absurd hs ho
  unqualified hs := ⟨(h.unqualified hs).1, by simp [(h.unqualified hs).2]⟩
  qualified h1 h2 := ⟨(h.qualified h1 h2).1, by simpa using (h.qualified h1 h2).2⟩
  counting := h.counting
  still := h.still
  midway t half hm := by
    rcases midwayAfter_cases hm with ⟨x, g, -, hg, hx, hr, rfl, -⟩ | ⟨hm, -⟩
    · refine ⟨g, hg, ?_⟩
      have band := rateClass_band hx hr
      unfold Ticks at *
      rcases band with ⟨hr, hx⟩ | ⟨hr, hx⟩
      · exact .inl ⟨hr, by omega⟩
      · exact .inr ⟨hr, by omega⟩
    · exact h.midway t half hm

/-- The settings of an Input Setup in range keep a unit sound (R19 (1)). -/
theorem InputSound.withSettings (h : InputSound u) {p : InputSetupFields} (hp : inputSetupOk p = true) :
    InputSound (u.withSettings p) := by
  obtain ⟨-, -, -, -, hk, hk', hl, hl', -⟩ := (inputSetupOk_iff p).1 hp
  exact ⟨⟨hk, hk', hl, hl', h.settings.2.2.2.2⟩, h.off, h.unqualified, h.qualified, h.counting, h.still, h.midway⟩

/-- A ring length in range keeps a unit sound (R19). -/
theorem InputSound.resized (h : InputSound u) {p : InputSetupFields} (hp : inputSetupOk p = true) :
    InputSound { u with ringLength := p.ring } := by
  obtain ⟨-, -, hr, hr', -⟩ := (inputSetupOk_iff p).1 hp
  obtain ⟨hk, hk', hl, hl', -, -⟩ := h.settings
  exact ⟨⟨hk, hk', hl, hl', hr, hr'⟩, h.off, h.unqualified, h.qualified, h.counting, h.still, h.midway⟩

/-- A unit that leaves OFF for SEARCHING is sound (R19 (2)). -/
theorem InputSound.enabled (h : InputSound u) (ho : u.state = .off) :
    InputSound { u with sequence := 0, lastStart := none, state := .searching } where
  settings := h.settings
  off hs := by cases hs
  unqualified _ := h.unqualified (.inl ho)
  qualified _ hs := absurd rfl hs
  counting hs := by rcases hs with hs | hs <;> cases hs
  still _ _ := h.still (by simp [ho]) (by simp [ho])
  midway := h.midway

/-- A unit that enters OFF is sound (R7). -/
theorem InputSound.toOff (h : InputSound u) : InputSound u.toOff where
  settings := h.settings
  off _ := ⟨rfl, rfl, rfl⟩
  unqualified _ := ⟨rfl, rfl⟩
  qualified hs := absurd rfl hs
  counting hs := by rcases hs with hs | hs <;> cases hs
  still _ _ := rfl
  midway _ _ hm := by cases hm

/-! #### Locked on supported formats only (R4, R10) -/

/-- A unit that can supply frames counts a supported format. -/
def Input.LocksSupported (u : Input) : Prop :=
  u.state = .locked ∨ u.state = .suspect → ∃ f, u.counted = some f ∧ f.supported = true

/-- Outside LOCKED and SUSPECT nothing is claimed. -/
theorem Input.LocksSupported.of_state (h : u.state ≠ .locked) (h' : u.state ≠ .suspect) : u.LocksSupported :=
  fun hs => (hs.elim h h').elim

/-- A bad-frame event takes no unit to LOCKED, and to SUSPECT only from LOCKED (R11, R12). -/
theorem Input.LocksSupported.bad (h : u.LocksSupported) : u.bad.LocksSupported := by
  unfold Input.bad
  split
  case h_1 | h_2 => exact h
  case h_3 | h_6 => exact .of_state (by simp [Input.toSearching]) (by simp [Input.toSearching])
  case h_4 hs =>
    split
    · exact .of_state (by simp [Input.toSearching]) (by simp [Input.toSearching])
    · exact fun _ => h (.inl hs)
  case h_5 hs =>
    split
    · exact .of_state (by simp [Input.toSearching]) (by simp [Input.toSearching])
    · exact fun _ => h (.inr hs)

/-- A matching frame locks an input on a supported format only (R10, R11). -/
theorem Input.LocksSupported.matched (h : u.LocksSupported) : u.matched.LocksSupported := by
  unfold Input.matched
  split
  case h_5 hs => exact fun _ => h (.inr hs)
  case h_6 hs =>
    split
    · intro hl
      by_cases hg : (u.counted.map Format.supported).getD false = true
      · cases hc : u.counted with
        | none => simp [hc] at hg
        | some f => exact ⟨f, rfl, by simpa [hc] using hg⟩
      · simp [hg] at hl
    · exact .of_state (by simp [hs]) (by simp [hs])
  all_goals exact h

/-- A frame of another format takes no unit to LOCKED (R8, R9, R11 to R13). -/
theorem Input.LocksSupported.other (h : u.LocksSupported) (f : Format) (now : Ticks) :
    (u.other f now).LocksSupported := by
  unfold Input.other
  split
  case h_1 => exact h
  case h_2 hs => exact .of_state (by simp [Input.candidate, hs]) (by simp [Input.candidate, hs])
  case h_3 hs =>
    exact .of_state (by simp [Input.candidate, hs, Input.countBad]) (by simp [Input.candidate, hs, Input.countBad])
  all_goals exact h.bad

/-- A judged frame end locks an input on a supported format only (Table 1.3). -/
theorem Input.LocksSupported.judged (h : u.LocksSupported) (f : FrameInProgress) (j : Judgement) (now : Ticks) :
    (u.judged f j now).LocksSupported := by
  unfold Input.judged
  split
  · exact h.bad
  · exact h.matched
  · exact h.other _ now
  · exact h

/-! #### What no frame event changes -/

/-- The input state machine leaves the substitute colour and the frame in progress as they are, and neither enters nor
leaves OFF (Table 1.3). -/
theorem Input.bad_kept (u : Input) : u.bad.substColour = u.substColour ∧ u.bad.frame = u.frame
    ∧ (u.bad.state = .off ↔ u.state = .off) := by
  unfold Input.bad
  split
  case h_4 hs | h_5 hs => split <;> simp [Input.toSearching, Input.countBad, Input.countLoss, hs]
  all_goals simp [Input.toSearching, Input.countBad, *]

theorem Input.matched_kept (u : Input) : u.matched.substColour = u.substColour ∧ u.matched.frame = u.frame
    ∧ u.matched.counted = u.counted ∧ (u.matched.state = .off ↔ u.state = .off) := by
  unfold Input.matched
  split
  case h_6 hs =>
    split
    · cases (u.counted.map Format.supported).getD false <;> simp [hs]
    · simp [hs]
  all_goals simp [*]

theorem Input.other_kept (u : Input) (f : Format) (now : Ticks) : (u.other f now).substColour = u.substColour
    ∧ (u.other f now).frame = u.frame ∧ ((u.other f now).state = .off ↔ u.state = .off) := by
  unfold Input.other
  split
  case h_2 hs | h_3 hs => simp [Input.candidate, hs, Input.countBad]
  case h_1 => simp
  all_goals exact u.bad_kept

/-- A judged frame end leaves the substitute colour as it is, and neither enters nor leaves OFF (Table 1.3). -/
theorem Input.judged_kept (u : Input) (f : FrameInProgress) (j : Judgement) (now : Ticks) :
    (u.judged f j now).substColour = u.substColour ∧ (u.judged f j now).frame = u.frame
      ∧ ((u.judged f j now).state = .off ↔ u.state = .off) := by
  unfold Input.judged
  split
  · exact u.bad_kept
  · exact ⟨u.matched_kept.1, u.matched_kept.2.1, u.matched_kept.2.2.2⟩
  · exact u.other_kept _ now
  · exact ⟨rfl, rfl, Iff.rfl⟩

/-! #### The ways in which a command changes a capture unit -/

/-- What one command can make of capture unit `u`: a frame start, a frame end, an expiry of its timer, a midway instant
that passes, the settings, enabling and disabling of Input Setup, Input Reset, and the clearing of Input Query. -/
inductive UnitMove (u : Input) : Input → Prop
  | started (f : FrameInProgress) (interval : Option Ticks) (start : Ticks) : u.state ≠ .off →
      UnitMove u { u with
        lastStart := some start, timer := u.timer.map fun _ => start + Config.missingFrame, frame := some f
        midway := u.midwayAfter interval start }
  | ended (f : FrameInProgress) (j : Judgement) (now : Ticks) (sequence stored : Nat) :
      UnitMove u { u.judged f j now with frame := none, sequence := sequence, framesStored := stored }
  | expired (t : Ticks) : u.timer = some t →
      UnitMove u { u with timer := some (t + Config.missingFrame), frame := none }.bad
  | passed : UnitMove u { u with midway := none }
  | stored (p : InputSetupFields) : inputSetupOk p = true → UnitMove u (u.withSettings p)
  | resized (p : InputSetupFields) : inputSetupOk p = true → UnitMove u { u.withSettings p with ringLength := p.ring }
  | enabled (p : InputSetupFields) : inputSetupOk p = true → u.state = .off →
      UnitMove u
        { u.withSettings p with ringLength := p.ring, sequence := 0, lastStart := none, state := .searching }
  | disabled (p : InputSetupFields) : inputSetupOk p = true →
      UnitMove u { (u.withSettings p).toOff with ringLength := p.ring }
  | reset : UnitMove u
      { u.toSearching with frame := none, framesStored := 0, framesBad := 0, lockLosses := 0, sequence := 0 }
  | cleared : UnitMove u { u with framesStored := 0, framesBad := 0, lockLosses := 0 }

/-- Every change of a capture unit keeps it sound (Table 1.1, R6 to R13). -/
theorem UnitMove.sound (h : InputSound u) (m : UnitMove u v) : InputSound v := by
  cases m with
  | started f interval start ho => exact h.started ho f interval start
  | ended f j now =>
    have := (h.judged f j now).withoutFrame
    exact ⟨this.settings, this.off, this.unqualified, this.qualified, this.counting, this.still, this.midway⟩
  | expired t ht => exact (h.restarted (by simp [ht]) _).withoutFrame.bad
  | passed => exact h.withoutMidway
  | stored p hp => exact h.withSettings hp
  | resized p hp => exact (h.withSettings hp).resized hp
  | enabled p hp ho => exact ((h.withSettings hp).resized hp).enabled ho
  | disabled p hp => exact (h.withSettings hp).toOff.resized hp
  | reset =>
    have := h.toSearching.withoutFrame
    exact ⟨this.settings, this.off, this.unqualified, this.qualified, this.counting, this.still, this.midway⟩
  | cleared => exact ⟨h.settings, h.off, h.unqualified, h.qualified, h.counting, h.still, h.midway⟩

/-- Every change of a capture unit keeps it locked on supported formats only (R4, R10). -/
theorem UnitMove.locksSupported (h : u.LocksSupported) (m : UnitMove u v) : v.LocksSupported := by
  cases m with
  | started | passed | cleared | stored | resized => exact h
  | ended f j now => exact h.judged f j now
  | expired t ht => exact Input.LocksSupported.bad h
  | enabled | disabled | reset => exact .of_state nofun nofun

/-- Every change of a capture unit keeps its substitute colour in range (R17, Table 1.4). -/
theorem UnitMove.substColour (h : u.substColour.inRange = true) (m : UnitMove u v) :
    v.substColour.inRange = true := by
  have set : ∀ {p}, inputSetupOk p = true → p.colour.inRange = true := fun hp => by
    obtain ⟨-, -, -, -, -, -, -, -, -, -, hy, hb, hr⟩ := (inputSetupOk_iff _).1 hp
    simp [Colour.inRange, hy, hb, hr]
  cases m with
  | started | passed | cleared | reset => exact h
  | ended f j now => exact (u.judged_kept f j now).1 ▸ h
  | expired t ht => rw [(Input.bad_kept _).1]; exact h
  | stored p hp | resized p hp | enabled p hp | disabled p hp => exact set hp

end Sys2Proof.Machine
end

section
/-! ### What the shared operations can change

One equation for each operation: the fields it may write, everything else being as it was. -/

namespace Sys2Proof.Machine

variable {s t : State}

/-- A change of presence changes the time base and the event unit only (R65 to R67). -/
theorem settlePresence_eq (was : Bool) (s : State) : settlePresence was s = { s with
    time := (settlePresence was s).time, events := (settlePresence was s).events } := by
  obtain ⟨m, -, hs, -⟩ := ensureMeasured_spec s
  unfold settlePresence
  split
  · unfold enterTracking; rw [enterTiming_eq]; rfl
  · split
    · unfold enterHoldover; rw [hs, enterTiming_eq]; rfl
    · rfl

/-- The events of a change of a unit change the event unit only (R14). -/
theorem raiseInput_eq (i : Nat) (u v : Input) (lost : Bool) (s : State) : raiseInput i u v lost s = { s with
    events :=
      let e := if lost then s.events.raised (.inputLost i v.lockLosses) else s.events
      if u.state = v.state then e else e.raised (.inputState i v.state v.counted) } := by
  unfold raiseInput
  cases lost <;> dsimp only <;> split <;> rfl

/-- A bad end changes slots only (R44). -/
theorem badEnd_eq (i : Nat) (s : State) : badEnd i s = { s with slots := (badEnd i s).slots } := by
  unfold badEnd
  split <;> rfl

/-- Returning a reservation changes slots and reservations only (R36). -/
theorem freeReservation_eq (i : Nat) (s : State) : freeReservation i s = { s with
    slots := (freeReservation i s).slots, reservations := (freeReservation i s).reservations } := by
  unfold freeReservation
  split <;> rfl

/-- The end of a grab changes slots, reservations and the link only (R36, R154). -/
theorem failGrab_eq (i : Nat) (status : Status) (s : State) : failGrab i status s = { s with
    slots := (failGrab i status s).slots, reservations := (failGrab i status s).reservations
    link := (failGrab i status s).link } := by
  unfold failGrab
  split
  · rw [freeReservation_eq]; rfl
  · rfl

end Sys2Proof.Machine

/-! ### Commands that bring nothing new

`Quiet` relates the part before and after an event that changes no capture unit and writes no new picture, format or
colour: what every command does but those that `Move` lists apart. -/

namespace Sys2Proof.Machine

variable {s t : State}

/-- The record keeps its picture, and its format or none. -/
def Slot.Fades (x y : Slot) : Prop := y.picture = x.picture ∧ (y.format = x.format ∨ y.format = none)

/-- The record keeps its staged background; its live one stays or is the staged one (R98). -/
def Scene.TakesOver (x y : Scene) : Prop :=
  y.stagedBackground = x.stagedBackground
    ∧ (y.liveBackground = x.liveBackground ∨ y.liveBackground = x.stagedBackground)

/-- Each copy of the record stays, is the staged one, or is the default (R83, R98). -/
def Window.TakesOver (x y : Window) : Prop :=
  (y.staged = x.staged ∨ y.staged = WindowConfig.reset)
    ∧ (y.live = x.live ∨ y.live = x.staged ∨ y.live = WindowConfig.reset)

/-- No capture unit changes, and no slot, window, scene or claim record gets a picture, a format or a colour that the
part did not hold. -/
structure Quiet (s t : State) : Prop where
  pending : t.pending = s.pending
  inputs : t.inputs = s.inputs
  slots : ∀ n, (s.slot n).Fades (t.slot n)
  choices : ∀ e ∈ t.comp.record, ∀ c, e.choice = .colour c →
    (∃ d ∈ s.comp.record, d.choice = .colour c) ∨ ∃ i, (s.input i).substColour = c
  scenes : ∀ k, (s.scene k).TakesOver (t.scene k)
  windows : ∀ w, (s.window w).TakesOver (t.window w)

theorem Slot.Fades.refl (x : Slot) : x.Fades x := ⟨rfl, .inl rfl⟩
theorem Slot.Fades.trans {x y z : Slot} (h : x.Fades y) (h' : y.Fades z) : x.Fades z :=
  ⟨h'.1.trans h.1, h'.2.elim (fun e => e ▸ h.2) .inr⟩
theorem Slot.fades_toFree (x : Slot) : x.Fades x.toFree := ⟨rfl, .inr rfl⟩
theorem Slot.fades_toEmpty (o : Owner) (x : Slot) : x.Fades (x.toEmpty o) := ⟨rfl, .inr rfl⟩
theorem Slot.fades_toFilling (i : Nat) (x : Slot) : x.Fades (x.toFilling i) := ⟨rfl, .inr rfl⟩
theorem Slot.fades_toRetiring (x : Slot) : x.Fades x.toRetiring := ⟨rfl, .inl rfl⟩

theorem Scene.TakesOver.refl (x : Scene) : x.TakesOver x := ⟨rfl, .inl rfl⟩
theorem Scene.TakesOver.trans {x y z : Scene} (h : x.TakesOver y) (h' : y.TakesOver z) : x.TakesOver z :=
  ⟨h'.1.trans h.1, h'.2.elim (fun e => e ▸ h.2) fun e => .inr (e.trans h.1)⟩
theorem Window.TakesOver.refl (x : Window) : x.TakesOver x := ⟨.inl rfl, .inl rfl⟩
theorem Window.TakesOver.trans {x y z : Window} (h : x.TakesOver y) (h' : y.TakesOver z) : x.TakesOver z := by
  refine ⟨h'.1.elim (fun e => e ▸ h.1) .inr, ?_⟩
  rcases h'.2 with e | e | e
  · exact e ▸ h.2
  · exact h.1.elim (fun e' => .inr (.inl (e.trans e'))) fun e' => .inr (.inr (e.trans e'))
  · exact .inr (.inr e)

/-- What `Quiet` speaks of. -/
def State.tracked (s : State) :=
  (s.pending, s.inputs, s.slots, s.comp.record, s.scenes, s.windows)

/-- An event that writes nothing that `Quiet` speaks of is quiet. -/
theorem Quiet.same (h : t.tracked = s.tracked) : Quiet s t := by
  simp only [State.tracked, Prod.mk.injEq] at h
  obtain ⟨hp, hi, hs, hc, hk, hw⟩ := h
  refine ⟨hp, hi, fun n => ?_, fun e he c hc' => .inl ⟨e, hc ▸ he, hc'⟩, fun k => ?_, fun w => ?_⟩
  · rw [State.slot, State.slot, hs]; exact .refl _
  · rw [State.scene, State.scene, hk]; exact .refl _
  · rw [State.window, State.window, hw]; exact .refl _

theorem Quiet.refl (s : State) : Quiet s s := .same rfl

theorem Quiet.trans {r : State} (h : Quiet r s) (h' : Quiet s t) : Quiet r t where
  pending := h'.pending.trans h.pending
  inputs := h'.inputs.trans h.inputs
  slots n := (h.slots n).trans (h'.slots n)
  choices e he c hc := by
    rcases h'.choices e he c hc with ⟨d, hd, hd'⟩ | ⟨i, hi⟩
    · exact h.choices d hd c hd'
    · exact .inr ⟨i, by rw [State.input, ← h.inputs]; exact hi⟩
  scenes k := (h.scenes k).trans (h'.scenes k)
  windows w := (h.windows w).trans (h'.windows w)

/-- Events that are each quiet are quiet one after another. -/
theorem Quiet.foldl {α : Type} {f : State → α → State} (hf : ∀ s x, Quiet s (f s x)) (l : List α) :
    ∀ s, Quiet s (l.foldl f s) := by
  induction l with
  | nil => exact Quiet.refl
  | cons x rest ih => exact fun s => (hf s x).trans (ih _)

/-! #### Quiet writes -/

/-- A place of a bank after a write of one place: what was written, or what stood there. -/
theorem look_put_cases {α : Type} {n : Nat} (v : Vector α n) (x d : α) (i j : Nat) :
    (j = i ∧ look (put v i x) j d = x) ∨ look (put v i x) j d = look v j d := by
  by_cases h : j = i
  · subst h
    by_cases hj : j < n
    · exact .inl ⟨rfl, look_put_same v x d hj⟩
    · exact .inr (by rw [put_outside v x (Nat.le_of_not_lt hj)])
  · exact .inr (look_put_ne v x d h)

/-- A place of a bank after an `alter`: altered, or what stood there. -/
theorem look_alter_cases {α : Type} {n : Nat} (v : Vector α n) (ns : List Nat) (f : α → α) (d : α) (j : Nat) :
    look (alter v ns f) j d = f (look v j d) ∨ look (alter v ns f) j d = look v j d := by
  by_cases h : j < n
  · rw [look_alter v ns f d h]
    split
    · exact .inl rfl
    · exact .inr rfl
  · exact .inr (by rw [look_outside _ _ (Nat.le_of_not_lt h), look_outside _ _ (Nat.le_of_not_lt h)])

/-- A place of a bank after a map: mapped, or one that the bank lacks. -/
theorem look_map_cases {α : Type} {n : Nat} (v : Vector α n) (f : α → α) (d : α) (j : Nat) :
    look (v.map f) j d = f (look v j d) ∨ look (v.map f) j d = look v j d := by
  by_cases h : j < n
  · exact .inl (look_map v f d h)
  · exact .inr (by rw [look_outside _ _ (Nat.le_of_not_lt h), look_outside _ _ (Nat.le_of_not_lt h)])

/-- A quiet event that also writes a slot. -/
theorem Quiet.setSlot (h : Quiet s t) {n : Nat} {x : Slot} (hx : (s.slot n).Fades x) : Quiet s (t.setSlot n x) :=
  { h with
    slots := fun m => by
      rcases look_put_cases t.slots x Slot.reset n m with ⟨rfl, e⟩ | e
      · rw [show (t.setSlot m x).slot m = x from e]; exact hx
      · exact (show (t.setSlot n x).slot m = t.slot m from e) ▸ h.slots m }

/-- A quiet event that also alters slots. -/
theorem Quiet.alterSlots (h : Quiet s t) (ns : List Nat) {f : Slot → Slot} (hf : ∀ x : Slot, x.Fades (f x)) :
    Quiet s (t.alterSlots ns f) :=
  { h with
    slots := fun m => by
      rcases look_alter_cases t.slots ns f Slot.reset m with e | e
      · exact (show (t.alterSlots ns f).slot m = f (t.slot m) from e) ▸ (h.slots m).trans (hf _)
      · exact (show (t.alterSlots ns f).slot m = t.slot m from e) ▸ h.slots m }

/-- A quiet event that also writes a scene. -/
theorem Quiet.setScene (h : Quiet s t) {k : Nat} {x : Scene} (hx : (s.scene k).TakesOver x) :
    Quiet s (t.setScene k x) :=
  { h with
    scenes := fun j => by
      rcases look_put_cases t.scenes x Scene.reset k j with ⟨rfl, e⟩ | e
      · rw [show (t.setScene j x).scene j = x from e]; exact hx
      · exact (show (t.setScene k x).scene j = t.scene j from e) ▸ h.scenes j }

/-- A quiet event that also writes a window. -/
theorem Quiet.setWindow (h : Quiet s t) {w : Nat} {x : Window} (hx : (s.window w).TakesOver x) :
    Quiet s (t.setWindow w x) :=
  { h with
    windows := fun v => by
      rcases look_put_cases t.windows x Window.reset w v with ⟨rfl, e⟩ | e
      · rw [show (t.setWindow v x).window v = x from e]; exact hx
      · exact (show (t.setWindow w x).window v = t.window v from e) ▸ h.windows v }

/-! A quiet event that also writes what `Quiet` does not speak of. -/

theorem Quiet.setRing (h : Quiet s t) {i : Nat} {x : Ring} : Quiet s (t.setRing i x) := h.trans (.same rfl)
theorem Quiet.setStill (h : Quiet s t) {e : Nat} {x : Option Nat} : Quiet s (t.setStill e x) := h.trans (.same rfl)
theorem Quiet.setReservation (h : Quiet s t) {i : Nat} {x : Option Nat} : Quiet s (t.setReservation i x) :=
  h.trans (.same rfl)
theorem Quiet.setPin (h : Quiet s t) {w : Nat} {x : Option Nat} : Quiet s (t.setPin w x) := h.trans (.same rfl)
theorem Quiet.setPort (h : Quiet s t) {p : Nat} {x : Port} : Quiet s (t.setPort p x) := h.trans (.same rfl)
theorem Quiet.setTime (h : Quiet s t) {x : TimeBase} : Quiet s (t.setTime x) := h.trans (.same rfl)
theorem Quiet.setLink (h : Quiet s t) {x : Link} : Quiet s (t.setLink x) := h.trans (.same rfl)
theorem Quiet.setEvents (h : Quiet s t) {x : EventUnit} : Quiet s (t.setEvents x) := h.trans (.same rfl)
theorem Quiet.reach (h : Quiet s t) {b : Ticks} : Quiet s (t.reach b) := h.trans (.same rfl)

/-! #### Quiet operations: the time base -/

theorem quiet_raise (e : Event) (s : State) : Quiet s (raise e s) := .same rfl

theorem quiet_enterTiming (x : Timing) (s : State) : Quiet s (enterTiming x s) := by
  rw [enterTiming_eq]; exact .same rfl

theorem quiet_ensureMeasured (s : State) : Quiet s (ensureMeasured s) := by
  obtain ⟨m, -, hs, -⟩ := ensureMeasured_spec s
  rw [hs]; exact .same rfl

theorem quiet_settlePresence (was : Bool) (s : State) : Quiet s (settlePresence was s) := by
  rw [settlePresence_eq]; exact .same rfl

theorem quiet_lockPoint (period : Ticks) (s : State) : Quiet s (lockPoint period s) := by
  rw [lockPoint_eq]; exact .same rfl

theorem quiet_freeRunAtBoundary (s : State) : Quiet s (freeRunAtBoundary s) :=
  (Quiet.refl s).setTime.trans (quiet_enterTiming .freeRun _)

theorem quiet_alignAtBoundary (s : State) : Quiet s (alignAtBoundary s) :=
  (Quiet.refl s).setTime.trans (quiet_enterTiming .tracking _)

theorem quiet_holdAtBoundary (s : State) : Quiet s (holdAtBoundary s) :=
  (quiet_ensureMeasured s).setTime.trans (quiet_enterTiming .holdover _)

theorem quiet_settleState (r : Rate) (src : LockSource) (s : State) : Quiet s (settleState r src s) := by
  unfold settleState
  split
  · exact quiet_freeRunAtBoundary s
  split
  · split
    · split
      · exact .refl s
      · exact quiet_alignAtBoundary s
    · exact quiet_freeRunAtBoundary s
  split
  · split
    · exact quiet_alignAtBoundary s
    split
    · exact quiet_holdAtBoundary s
    · exact .refl s
  · exact .refl s

theorem quiet_settleStaged (s : State) : Quiet s (settleStaged s) := by
  unfold settleStaged
  split
  · exact .refl s
  · refine Quiet.trans ?_ (quiet_settleState _ _ _)
    rw [applyStaged_eq]; exact .same rfl

theorem quiet_countHoldover (s : State) : Quiet s (countHoldover s) := by
  unfold countHoldover
  split
  · split
    · exact quiet_freeRunAtBoundary s
    · exact .same rfl
  · exact .refl s

theorem quiet_timeBoundary (b : Ticks) (s : State) : Quiet s (timeBoundary b s) :=
  (((Quiet.refl s).reach.trans (quiet_settleStaged _)).trans (quiet_countHoldover _)).setTime

theorem quiet_pulse (b : Ticks) (s : State) : Quiet s (pulse b s) := by
  have settled : ∀ was x, Quiet s (settlePresence was ((s.reach b).setTime x)) := fun was x =>
    (Quiet.refl s).reach.setTime.trans (quiet_settlePresence _ _)
  unfold pulse
  dsimp only
  split
  · split
    · exact (settled _ _).trans (quiet_lockPoint _ _)
    · exact settled _ _
  · exact settled _ _

theorem quiet_referenceLost (s : State) : Quiet s (referenceLost s) := by
  unfold referenceLost
  split
  · exact .refl s
  · exact (Quiet.refl s).reach.setTime.trans (quiet_settlePresence s.lockPresent _)

theorem quiet_holdoverEnds (s : State) : Quiet s (holdoverEnds s) := by
  unfold holdoverEnds
  split
  · exact quiet_freeRunAtBoundary s
  · exact .refl s

/-! #### Quiet operations: the frame store -/

theorem quiet_addClaim (n : Nat) (s : State) : Quiet s (addClaim n s) := (Quiet.refl s).setSlot ⟨rfl, .inl rfl⟩

theorem quiet_beginWrite (i n : Nat) (s : State) : Quiet s (beginWrite i n s) :=
  ((Quiet.refl s).setSlot (Slot.fades_toFilling i _)).setRing

theorem quiet_badEnd (i : Nat) (s : State) : Quiet s (badEnd i s) := by
  unfold badEnd
  split
  · exact .refl s
  · exact (Quiet.refl s).setSlot (Slot.fades_toEmpty _ _)

theorem quiet_allocateRing (i m : Nat) (s : State) : Quiet s (allocateRing i m s) :=
  ((Quiet.refl s).alterSlots _ (Slot.fades_toEmpty (.input i))).setRing

theorem quiet_retireStill (e : Nat) (s : State) : Quiet s (retireStill e s) := by
  unfold retireStill
  split
  · exact .refl s
  · exact (Quiet.refl s).setSlot (Slot.fades_toRetiring _)

theorem quiet_endPending (f : PendingTarget → Option Status) (s : State) : Quiet s (endPending f s) := .same rfl

theorem quiet_completeGrab (i e n r : Nat) (s : State) : Quiet s (completeGrab i e n r s) := by
  unfold completeGrab
  refine Quiet.trans (Quiet.setStill (Quiet.trans (Quiet.setReservation ?_) (quiet_retireStill e _)))
    (quiet_endPending _ _)
  have kept : ∀ ring x, (s.slot n).Fades x → Quiet s ((s.setRing i ring).setSlot n x) := fun ring x hx =>
    (Quiet.refl s).setRing.setSlot hx
  refine Quiet.trans ?_ ((Quiet.refl _).setSlot (Slot.fades_toEmpty _ _))
  exact kept _ _ ⟨rfl, .inl rfl⟩

theorem quiet_freeReservation (i : Nat) (s : State) : Quiet s (freeReservation i s) := by
  unfold freeReservation
  split
  · exact .refl s
  · exact ((Quiet.refl s).setSlot (Slot.fades_toFree _)).setReservation

theorem quiet_failGrab (i : Nat) (status : Status) (s : State) : Quiet s (failGrab i status s) := by
  unfold failGrab
  split
  · exact (quiet_freeReservation i s).trans (quiet_endPending _ _)
  · exact .refl s

theorem Slot.fades_marked (i : Nat) (x : Slot) : x.Fades (x.marked i) := by
  unfold Slot.marked
  split
  · split <;> exact ⟨rfl, .inl rfl⟩
  · exact ⟨rfl, .inr rfl⟩
  all_goals exact .refl x

theorem Slot.fades_released (x : Slot) : x.Fades x.released := by
  unfold Slot.released
  split
  · exact ⟨rfl, .inl rfl⟩
  · exact ⟨rfl, .inr rfl⟩

theorem quiet_markStale (i : Nat) (s : State) : Quiet s (markStale i s) :=
  Quiet.setRing ((Quiet.refl s).alterSlots _ (Slot.fades_marked i))

theorem quiet_releasePin (w : Nat) (b : Bool) (s : State) : Quiet s (releasePin w b s) := by
  unfold releasePin
  split
  · exact .refl s
  · rename_i n _
    have freed : ∀ x, (s.slot n).Fades x → Quiet s ((s.setPin w none).setSlot n x) := fun x hx =>
      (Quiet.same rfl : Quiet s (s.setPin w none)).setSlot hx
    dsimp only
    split
    · refine (freed _ ?_).trans (quiet_addClaim _ _)
      split <;> exact ⟨rfl, .inl rfl⟩
    · refine freed _ ?_
      split <;> exact ⟨rfl, .inl rfl⟩

theorem quiet_unfreeze (w : Nat) (b : Bool) (s : State) : Quiet s (unfreeze w b s) := by
  refine Quiet.trans ?_ (quiet_releasePin w b _)
  exact (Quiet.refl s).setWindow ⟨.inl rfl, .inl rfl⟩

theorem quiet_unfreezeAll (i : Nat) (s : State) : Quiet s (unfreezeAll i s) :=
  Quiet.foldl (fun s w => quiet_unfreeze w true s) _ s

/-- Windows unfrozen and pins dropped all at once are quiet (R31). -/
theorem quiet_unfrozen (ns : List Nat) (pins : Vector (Option Nat) 64) (s : State) :
    Quiet s { s with windows := alter s.windows ns fun x => { x with frozen := false }, pins := pins } :=
  { Quiet.refl s with
    windows := fun w => by
      rcases look_alter_cases s.windows ns (fun x => { x with frozen := false }) Window.reset w with e | e
      · rw [State.window, State.window, e]; exact ⟨.inl rfl, .inl rfl⟩
      · rw [State.window, State.window, e]; exact .refl _ }

theorem quiet_releaseRing (i : Nat) (s : State) : Quiet s (releaseRing i s) :=
  Quiet.trans (Quiet.setRing ((quiet_unfrozen _ _ s).alterSlots _ Slot.fades_released)) (quiet_failGrab i .aborted _)

theorem quiet_releaseClaims (s : State) : Quiet s (releaseClaims s) :=
  { Quiet.refl s with
    slots := fun n => by
      have e := look_map_cases s.slots (fun x =>
        let x := { x with claims := 0 }
        if x.state = .retiring then x.toFree else x) Slot.reset n
      rcases e with e | e
      · refine (show (releaseClaims s).slot n = _ from e) ▸ ?_
        dsimp only
        split
        · exact ⟨rfl, .inr rfl⟩
        · exact ⟨rfl, .inl rfl⟩
      · exact (show (releaseClaims s).slot n = s.slot n from e) ▸ .refl _ }

theorem quiet_countGrabs (s : State) : Quiet s (countGrabs s) :=
  (Quiet.foldl (fun s i => quiet_freeReservation i s) _ s).trans (.same rfl)

end Sys2Proof.Machine
end

section
/-! ### Quiet blocks: compositor, scene tables, ports and link -/

namespace Sys2Proof.Machine

variable {s t : State}

/-- A quiet event that also writes the compositor but not its claim record. -/
theorem Quiet.setComp (h : Quiet s t) {x : Compositor} (hx : x.record = t.comp.record) : Quiet s (t.setComp x) :=
  h.trans { Quiet.refl t with choices := fun e he _ hc => .inl ⟨e, hx ▸ he, hc⟩ }

/-! #### Choices and claims -/

/-- A substitute that is a colour is the one the input holds (R17, R47). -/
theorem chooseSubstitute_colour {i : Nat} {c : Colour} (h : chooseSubstitute i s = .colour c) :
    (s.input i).substColour = c := by
  unfold chooseSubstitute at h
  dsimp only at h
  split at h
  · cases h
  · cases h; rfl
  · cases h
  · split at h <;> cases h

/-- A choice that is a colour is the substitute of an input (R45 to R49). -/
theorem chooseShown_colour {src : Shown} {delay : Nat} {b : Bool} {c : Colour}
    (h : chooseShown src delay b s = .colour c) : ∃ i, (s.input i).substColour = c := by
  unfold chooseShown at h
  split at h
  · rename_i i
    refine ⟨i, ?_⟩
    unfold chooseInput at h
    dsimp only at h
    split at h
    · split at h
      · cases h
      · exact chooseSubstitute_colour h
    · exact chooseSubstitute_colour h
  · split at h <;> cases h
  · cases h
  · cases h

/-- What a window source is chosen as is a colour only as the substitute of an input (R45 to R52). -/
theorem choiceFor_colour {b : Bool} {w : Nat} {src : Shown} {c : Colour} (h : s.choiceFor b w src = .colour c) :
    ∃ i, (s.input i).substColour = c := by
  unfold State.choiceFor at h
  split at h
  · cases h
  · exact ⟨_, chooseSubstitute_colour h⟩
  · exact chooseShown_colour h

/-- Recording a choice whose colour an input holds is quiet (R50). -/
theorem Quiet.recordChoice (h : Quiet s t) {w : Nat} {src : Shown} {c : Choice}
    (hc : ∀ x, c = .colour x → ∃ i, (t.input i).substColour = x) : Quiet s (recordChoice w src c t) := by
  refine h.trans { Quiet.refl t with choices := fun e he x hx => ?_ }
  rcases List.mem_append.1 he with he | he
  · exact .inl ⟨e, (List.mem_filter.1 he).1, hx⟩
  · obtain rfl := List.mem_singleton.1 he
    exact .inr (hc x hx)

theorem quiet_claimSource (w : Nat) (b : Bool) (s : State) (src : Shown) : Quiet s (claimSource w b s src) := by
  have recorded : Quiet s (recordChoice w src (s.choiceFor b w src) s) :=
    (Quiet.refl s).recordChoice fun _ => choiceFor_colour
  rw [claimSource_eq]
  split
  · exact recorded.trans (quiet_addClaim _ _)
  · exact recorded

theorem quiet_claimWindow (b : Bool) (brought : Nat → Shown → Bool) (s : State) (w : Nat) :
    Quiet s (claimWindow b brought s w) :=
  Quiet.foldl (fun s src => by
    split
    · exact .refl s
    · exact quiet_claimSource w b s src) _ s

theorem quiet_claimScene (b : Bool) (brought : Nat → Shown → Bool) (s : State) (k : Nat) :
    Quiet s (claimScene b brought s k) :=
  Quiet.foldl (quiet_claimWindow b brought) _ s

theorem quiet_makePin (i n w : Nat) (s : State) : Quiet s (makePin i n w s) := by
  unfold makePin
  exact (Quiet.refl s).setPin.setRing.setSlot ⟨rfl, .inl rfl⟩

theorem quiet_pinWindow (ages : Vector Ring 16) (s : State) (w : Nat) : Quiet s (pinWindow ages s w) := by
  unfold pinWindow
  dsimp only
  split
  · split
    · split
      · exact .refl s
      · split
        · exact (Quiet.refl s).setWindow ⟨.inl rfl, .inl rfl⟩
        · split
          · exact ((quiet_makePin _ _ _ _).recordChoice fun _ h => by cases h).trans (quiet_addClaim _ _)
          · exact quiet_makePin _ _ _ _
    · exact .refl s
  · exact .refl s

theorem quiet_claimPortStill (s : State) (p : Nat) : Quiet s (claimPortStill s p) := by
  unfold claimPortStill
  dsimp only
  split
  · split
    · refine Quiet.trans ?_ (quiet_addClaim _ _)
      exact (Quiet.refl s).setComp rfl
    · exact .refl s
  · exact .refl s

theorem quiet_makeClaims (frozen : List Nat) (s : State) : Quiet s (makeClaims frozen s) := by
  have emptied : Quiet s (s.setComp
      { record := [], composed := s.displayedScenes, portStill := Vector.replicate 12 none }) :=
    { Quiet.refl s with choices := nofun }
  unfold makeClaims
  refine Quiet.trans ?_ (Quiet.foldl quiet_claimPortStill _ _)
  refine Quiet.trans ?_ (Quiet.foldl (quiet_claimScene false broughtNone) _ _)
  exact emptied.trans (Quiet.foldl (quiet_pinWindow _) _ _)

/-! #### Windows and scenes -/

/-- The copies of a window are as they were. -/
def Window.SameCopies (x y : Window) : Prop := y.staged = x.staged ∧ y.live = x.live

theorem Window.SameCopies.takesOver {x y : Window} (h : x.SameCopies y) : x.TakesOver y := ⟨.inl h.1, .inl h.2⟩

theorem Window.advance_sameCopies (x : Window) : x.SameCopies x.advance := by
  unfold Window.advance
  split
  · exact ⟨rfl, rfl⟩
  · split <;> exact ⟨rfl, rfl⟩
  · split <;> exact ⟨rfl, rfl⟩

theorem Window.start_sameCopies (x : Window) (target : Shown) : x.SameCopies (x.start target) := by
  unfold Window.start
  split <;> exact ⟨rfl, rfl⟩

theorem Window.stepTo_sameCopies (x : Window) (q : Nat) : x.SameCopies (x.stepTo q) := by
  unfold Window.stepTo
  dsimp only
  split
  · exact ⟨rfl, rfl⟩
  · exact Window.start_sameCopies _ _

theorem quiet_expireTour (w : Nat) (s : State) : Quiet s (expireTour w s) := by
  unfold expireTour
  dsimp only
  split
  · exact (Quiet.refl s).setWindow ⟨.inl rfl, .inl rfl⟩
  · refine Quiet.trans ?_ (quiet_raise _ _)
    exact (Quiet.refl s).setWindow (Window.TakesOver.trans ⟨.inl rfl, .inl rfl⟩ (Window.stepTo_sameCopies _ _).takesOver)

theorem quiet_advanceWindow (s : State) (w : Nat) : Quiet s (advanceWindow s w) := by
  unfold advanceWindow
  split
  · refine Quiet.trans ((Quiet.refl s).setWindow (w := w) (Window.advance_sameCopies (s.window w)).takesOver) ?_
    unfold countTour
    dsimp only
    split
    · split
      · exact quiet_expireTour _ _
      · exact (Quiet.refl _).setWindow ⟨.inl rfl, .inl rfl⟩
    · exact .refl _
  · exact .refl s

/-- A take in both lists, for a window that the take has given its staged configuration (R99, R105). -/
theorem quiet_takeBoth (w f : Nat) (b : Bool) (old : WindowConfig) {x : Window} (s : State)
    (hs : x.staged = (s.window w).staged) (hl : x.live = (s.window w).staged) :
    Quiet s (takeBoth w f b old x s) := by
  unfold takeBoth
  extract_lets again y target _ thawed
  have hy : y.staged = (s.window w).staged ∧ y.live = (s.window w).staged := by
    simp only [y]
    split
    · split <;> exact ⟨hs, hl⟩
    · exact ⟨hs, hl⟩
  have set : Quiet s (s.setWindow w y) := (Quiet.refl s).setWindow ⟨.inl hy.1, .inr (.inl hy.2)⟩
  split
  · split
    · exact set.trans (quiet_unfreeze _ _ _)
    · exact set
  · have moved := Window.start_sameCopies ({ y with frozen := false } : Window).complete target
    refine Quiet.setWindow ?_ ⟨.inl (moved.1.trans hy.1), .inr (.inl (moved.2.trans hy.2))⟩
    simp only [thawed]
    split
    · exact set.trans (quiet_unfreeze _ _ _)
    · exact .refl s

/-- A take copies a window's staged configuration to its live one and brings no other (R98). -/
theorem quiet_takeWindow (old new : List Nat) (f : Nat) (b : Bool) (s : State) (w : Nat) :
    Quiet s (takeWindow old new f b s w) := by
  have copied : ∀ {y : Window}, y.staged = (s.window w).staged → y.live = (s.window w).staged →
      Quiet s (s.setWindow w y) := fun hs hl => (Quiet.refl s).setWindow ⟨.inl hs, .inr (.inl hl)⟩
  unfold takeWindow
  dsimp only
  split
  · unfold takeEntering
    dsimp only
    split <;> exact copied rfl rfl
  · unfold takeLeaving
    dsimp only
    split
    · refine Quiet.trans ?_ (quiet_unfreeze _ _ _)
      exact copied rfl rfl
    · exact copied rfl rfl
  · exact copied rfl rfl
  · exact quiet_takeBoth w f b _ s rfl rfl

theorem quiet_applyTake (k f : Nat) (b : Bool) (s : State) : Quiet s (applyTake k f b s) := by
  unfold applyTake
  refine Quiet.trans ?_ (Quiet.foldl (quiet_takeWindow _ _ f b) _ _)
  exact (Quiet.refl s).setScene ⟨rfl, .inr rfl⟩

theorem quiet_applyPendingTake (s : State) (take : Nat × Nat) : Quiet s (applyPendingTake s take) := by
  refine (quiet_applyTake take.1 take.2 false s).trans ?_
  exact (Quiet.refl _).setScene ⟨rfl, .inl rfl⟩

theorem quiet_carryOutFreeze (s : State) (w : Nat) : Quiet s (carryOutFreeze s w) := by
  unfold carryOutFreeze
  dsimp only
  split
  · exact .refl s
  · refine (Quiet.refl s).setWindow ?_
    split <;> exact ⟨.inl rfl, .inl rfl⟩
  · split
    · refine Quiet.trans ?_ (quiet_unfreeze _ _ _)
      exact (Quiet.refl s).setWindow ⟨.inl rfl, .inl rfl⟩
    · exact (Quiet.refl s).setWindow ⟨.inl rfl, .inl rfl⟩

/-! #### Ports and the boundary -/

theorem quiet_takeCauses (n : Nat) (old p : Port) (s : State) : Quiet s (takeCauses n old p s) := by
  rw [takeCauses_eq]; exact .same rfl

theorem quiet_moveLine (line : OverrideLine) (level : Bool) (s : State) : Quiet s (moveLine line level s) := by
  have set : Quiet s (s.setLine line level) := by cases line <;> exact .same rfl
  refine set.trans (Quiet.foldl (fun s n => ?_) _ _)
  unfold lineOnPort
  dsimp only
  split
  · exact quiet_takeCauses _ _ _ s
  · exact .refl s

theorem quiet_composeNow (k : Nat) (s : State) : Quiet s (composeNow k s) := by
  unfold composeNow
  split
  · exact .refl s
  · refine Quiet.trans ?_ (quiet_claimScene _ _ _ _)
    exact (Quiet.refl s).setComp rfl

theorem quiet_applyAssignNow (n : Nat) (scene : Option Nat) (s : State) : Quiet s (applyAssignNow n scene s) := by
  unfold applyAssignNow
  dsimp only
  split
  · split
    · exact (Quiet.refl s).setPort.trans (quiet_composeNow _ _)
    · exact (Quiet.refl s).setPort
  · exact (Quiet.refl s).setPort

theorem quiet_portBoundary (s : State) : Quiet s (portBoundary s) := .same rfl

theorem Quiet.setNextLine (h : Quiet s t) {n : Nat} : Quiet s { t with nextLine := n } := h.trans (.same rfl)

theorem quiet_pictureBoundary (s : State) : Quiet s (pictureBoundary s) := by
  have taken : Quiet s (advanceAndTake s) := by
    unfold advanceAndTake
    exact (Quiet.foldl quiet_advanceWindow _ s).trans (Quiet.foldl quiet_applyPendingTake _ _)
  have carried : Quiet s (carryOutFreezes (advanceAndTake s)) := by
    unfold carryOutFreezes
    exact taken.trans (Quiet.foldl quiet_carryOutFreeze _ _)
  unfold pictureBoundary
  exact (carried.trans (quiet_portBoundary _)).trans (quiet_makeClaims _ _)

theorem quiet_takeBoundary (b : Ticks) (s : State) : Quiet s (takeBoundary b s) := by
  have opened : Quiet s (countGrabs (releaseClaims (timeBoundary b s))) :=
    ((quiet_timeBoundary b s).trans (quiet_releaseClaims _)).trans (quiet_countGrabs _)
  exact ((opened.trans (quiet_pictureBoundary _)).trans (quiet_endPending _ _)).setNextLine

theorem quiet_startLine (s : State) : Quiet s (startLine s) := by
  unfold startLine
  split
  · exact .same rfl
  · exact .refl s

/-! #### The link -/

theorem quiet_answer (tag kind : Byte) (status : Status) (s : State) : Quiet s (answer tag kind status s) := .same rfl

theorem quiet_answerData (tag kind : Byte) (data : List Byte) (s : State) : Quiet s (answerData tag kind data s) :=
  .same rfl

theorem quiet_linkError (s : State) : Quiet s (linkError s) := by
  unfold linkError
  split
  · exact .refl s
  · exact (Quiet.refl s).setLink.trans (quiet_raise _ _)

theorem quiet_queueFrame (f : Frame) (s : State) : Quiet s (queueFrame f s) := by
  unfold queueFrame
  split
  · exact .refl s
  · split
    · exact (Quiet.refl s).setLink
    · exact quiet_linkError s

theorem quiet_discard (s : State) : Quiet s (discard s) := (Quiet.refl s).setLink.trans (quiet_linkError _)

end Sys2Proof.Machine
end

section
/-! ### Everything a command can do to units, formats, pictures and colours

`Move` lists the elementary changes; `exec_moves` says that every command is a chain of them. Each invariant of the
capture units, of the stored frames and of the colours is then kept by each of six moves. -/

namespace Sys2Proof.Machine

variable {s t : State} {p : Picture}

/-- An elementary change of the part by a command that delivers the picture `p`: a quiet one, a change of one capture
unit, the good end of a frame of a LOCKED input (R43), a staged window or scene (R85, R88), or a part-wide reset
(R164). -/
inductive Move (p : Picture) (s : State) : State → Prop
  | quiet {t : State} : Quiet s t → Move p s t
  | unit (i : Nat) (v : Input) : i < 16 → UnitMove (s.input i) v → Move p s (s.setInput i v)
  | fill (i n : Nat) (f : Format) (x : Slot) : i < 16 → (s.input i).state = .locked → (s.input i).counted = some f →
      x.picture = writeFrame f.width f.height p → x.format = some f → Move p s (s.setSlot n x)
  | stageWindow (w : Nat) (x : Window) : x.staged.coloursInRange → x.live = (s.window w).live →
      Move p s (s.setWindow w x)
  | stageScene (k : Nat) (x : Scene) : x.stagedBackground.inRange = true →
      x.liveBackground = (s.scene k).liveBackground → Move p s (s.setScene k x)
  | reset (b : Ticks) (es : List Entry) : Move p s (resetPart b es s)

/-- Changes of the part one after another. -/
def Moves (p : Picture) : State → State → Prop := Relation.ReflTransGen (Move p)

theorem Moves.refl (s : State) : Moves p s s := Relation.ReflTransGen.refl

theorem Moves.trans {r : State} (h : Moves p r s) (h' : Moves p s t) : Moves p r t := Relation.ReflTransGen.trans h h'

/-- One more change. -/
theorem Moves.then {r : State} (h : Moves p r s) (h' : Move p s t) : Moves p r t := Relation.ReflTransGen.tail h h'

/-- One more quiet change. -/
theorem Moves.thenQuiet {r : State} (h : Moves p r s) (h' : Quiet s t) : Moves p r t := h.then (.quiet h')

theorem Quiet.moves (h : Quiet s t) : Moves p s t := (Moves.refl s).thenQuiet h

/-- A quiet change leaves every capture unit. -/
theorem Quiet.input (h : Quiet s t) (i : Nat) : t.input i = s.input i := by
  rw [State.input, State.input, h.inputs]

/-- A change of one unit after a quiet change. -/
theorem Quiet.thenUnit (h : Quiet s t) {i : Nat} (hi : i < 16) {v : Input} (m : UnitMove (s.input i) v) :
    Moves p s (t.setInput i v) :=
  h.moves.then (.unit i v hi (h.input i ▸ m))

/-! #### The events of an input link -/

theorem quiet_raiseInput (i : Nat) (u v : Input) (lost : Bool) (s : State) : Quiet s (raiseInput i u v lost s) := by
  rw [raiseInput_eq]; exact .same rfl

/-- A frame event changes the unit; what it brings with it is quiet (R8, R14, R36, R54). -/
theorem quiet_takeFrameEvent (i : Nat) (v : Input) (s : State) : Quiet (s.setInput i v) (takeFrameEvent i v s) := by
  unfold takeFrameEvent
  dsimp only
  split
  · exact ((quiet_raiseInput _ _ _ _ _).trans (quiet_markStale _ _)).trans (quiet_failGrab _ _ _)
  · exact quiet_raiseInput _ _ _ _ _

/-- A matching frame has the counted format (R5). -/
theorem judge_matching {u : Input} {f : FrameInProgress} {cut : Bool} (h : judge u f cut = .matching) :
    cut = false ∧ u.counted = f.format := by
  unfold judge at h
  split at h
  · cases h
  · rename_i r hr
    split at h
    · cases h
    · split at h
      · rename_i hc hm
        exact ⟨by simpa using hc, by rw [hm, FrameInProgress.format, hr]; rfl⟩
      · cases h

/-- The good end of a LOCKED input's frame fills a slot with it (R43). -/
theorem goodEnd_moves {i : Nat} (hi : i < 16) {f : Format} (hl : (s.input i).state = .locked)
    (hc : (s.input i).counted = some f) (sequence : Nat) : Moves p s (goodEnd i sequence f p s) := by
  unfold goodEnd
  dsimp only
  split
  · exact .refl s
  · rename_i n _
    have filled : ∀ q, Moves p s ((s.setSlot n { s.slot n with
        state := .complete, owner := .input i, sequence := q, format := some f
        picture := writeFrame f.width f.height p }).setRing i ((s.ring i).enter n)) := fun q =>
      ((Moves.refl s).then (.fill i n f _ hi hl hc rfl rfl)).thenQuiet (Quiet.refl _).setRing
    split
    · exact (filled _).thenQuiet (quiet_completeGrab _ _ _ _ _)
    · exact filled _

theorem quiet_emptied (b : Bool) (i : Nat) (s : State) : Quiet s (if b then badEnd i s else s) := by
  split
  · exact quiet_badEnd i s
  · exact .refl s

/-- The unit after the end of its frame `f` at instant `b`, `cut` saying that the frame was flagged or ended early
(Table 1.3). -/
def Input.afterEnd (u : Input) (f : FrameInProgress) (cut : Bool) (b : Ticks) : Input :=
  { u.judged f (judge u f cut) b with frame := none }

/-- The end of a frame is a good one, which stores it: matching and LOCKED after it (R15 (1)). -/
def Input.storesAtEnd (u : Input) (f : FrameInProgress) (cut : Bool) (b : Ticks) : Prop :=
  f.stored = true ∧ judge u f cut = .matching ∧ (u.afterEnd f cut b).state = .locked

/-- The end of a frame in progress is a good one, or one that stores nothing (R2 (2), R15). -/
theorem endFrame_cases {i : Nat} {f : FrameInProgress} (hf : (s.input i).frame = some f) (b : Ticks) (cut : Bool)
    (p : Picture) :
    let v := (s.input i).afterEnd f cut b
    ((s.input i).storesAtEnd f cut b ∧ ∃ g, f.format = some g ∧ endFrame i b cut p s = settlePresence s.lockPresent
        (goodEnd i ((v.sequence + 1) % 65536) g p (takeFrameEvent i { v with
          sequence := (v.sequence + 1) % 65536, framesStored := (v.framesStored + 1) % 4294967296 } s)))
      ∨ (¬(s.input i).storesAtEnd f cut b ∧ endFrame i b cut p s = settlePresence s.lockPresent
        (takeFrameEvent i v (if f.stored then badEnd i s else s))) := by
  intro v
  by_cases hgood : (s.input i).storesAtEnd f cut b
  · obtain ⟨hs, hj, hl⟩ := hgood
    have good : (f.stored && judge (s.input i) f cut == .matching && v.state == .locked) = true := by
      simp [hs, hj, v, hl]
    cases hg : f.format with
    | none =>
      cases hr : f.rate with
      | none => simp [judge, hr] at hj
      | some r => simp [FrameInProgress.format, hr] at hg
    | some g =>
      refine .inl ⟨⟨hs, hj, hl⟩, g, rfl, ?_⟩
      unfold endFrame
      simp only [hf, hg]
      rw [show (f.stored && judge (s.input i) f cut == .matching
        && ((s.input i).judged f (judge (s.input i) f cut) b).state == .locked) = true from good]
      rfl
  · have bad : (f.stored && judge (s.input i) f cut == .matching
        && ((s.input i).judged f (judge (s.input i) f cut) b).state == .locked) = false := by
      rw [← Bool.not_eq_true]
      intro h
      simp only [Bool.and_eq_true, beq_iff_eq] at h
      exact hgood ⟨h.1.1, h.1.2, h.2⟩
    refine .inr ⟨hgood, ?_⟩
    unfold endFrame
    simp only [hf, bad]
    rfl

/-- Without a frame in progress nothing ends. -/
theorem endFrame_none {i : Nat} (hf : (s.input i).frame = none) (b : Ticks) (cut : Bool) (p : Picture) :
    endFrame i b cut p s = s := by
  unfold endFrame
  simp only [hf]

/-- A good end judges the frame as one of the counted format, which it leaves (R5, R10, R11). -/
theorem Input.storesAtEnd.counted {u : Input} {f : FrameInProgress} {cut : Bool} {b : Ticks}
    (h : u.storesAtEnd f cut b) : (u.afterEnd f cut b).counted = f.format := by
  obtain ⟨-, hj, -⟩ := h
  show (u.judged f (judge u f cut) b).counted = f.format
  rw [hj, ← (judge_matching hj).2]
  exact u.matched_kept.2.2.1

theorem endFrame_moves {i : Nat} (hi : i < 16) (b : Ticks) (cut : Bool) (s : State) :
    Moves p s (endFrame i b cut p s) := by
  cases hf : (s.input i).frame with
  | none => rw [endFrame_none hf]; exact .refl s
  | some f =>
    rcases endFrame_cases hf b cut p with ⟨hgood, g, hg, e⟩ | ⟨-, e⟩ <;> rw [e] <;>
      refine Moves.thenQuiet ?_ (quiet_settlePresence _ _)
    · have ended := (Quiet.refl s).thenUnit (p := p) hi (.ended f (judge (s.input i) f cut) b
        ((((s.input i).afterEnd f cut b).sequence + 1) % 65536)
        ((((s.input i).afterEnd f cut b).framesStored + 1) % 4294967296))
      refine (ended.thenQuiet (quiet_takeFrameEvent i _ s)).trans (goodEnd_moves hi ?_ ?_ _)
      · rw [(quiet_takeFrameEvent _ _ _).input, State.setInput_input_same _ _ _ hi]
        exact hgood.2.2
      · rw [(quiet_takeFrameEvent _ _ _).input, State.setInput_input_same _ _ _ hi]
        exact hgood.counted.trans hg
    · refine Moves.thenQuiet ?_ (quiet_takeFrameEvent i _ _)
      exact (quiet_emptied _ i s).thenUnit hi (.ended f _ b _ _)

/-- A good end leaves the units as the frame event did (R43). -/
theorem goodEnd_inputs (i q : Nat) (f : Format) (p : Picture) (s : State) :
    (goodEnd i q f p s).inputs = s.inputs := by
  unfold goodEnd
  dsimp only
  split
  · rfl
  · split
    · exact (quiet_completeGrab _ _ _ _ _).inputs
    · rfl

/-- The end of a frame neither enters nor leaves OFF, and leaves no frame in progress (Table 1.3). -/
theorem endFrame_input {i : Nat} (hi : i < 16) (b : Ticks) (cut : Bool) (p : Picture) (s : State) :
    (((endFrame i b cut p s).input i).state = .off ↔ (s.input i).state = .off)
      ∧ ((endFrame i b cut p s).input i).frame = none := by
  cases hf : (s.input i).frame with
  | none => rw [endFrame_none hf]; exact ⟨Iff.rfl, hf⟩
  | some f =>
    have kept := ((s.input i).judged_kept f (judge (s.input i) f cut) b).2.2
    rcases endFrame_cases hf b cut p with ⟨-, g, -, e⟩ | ⟨-, e⟩ <;> rw [e, (quiet_settlePresence _ _).input]
    · rw [State.input, goodEnd_inputs, ← State.input, (quiet_takeFrameEvent _ _ _).input,
        State.setInput_input_same _ _ _ hi]
      exact ⟨kept, rfl⟩
    · rw [(quiet_takeFrameEvent _ _ _).input, State.setInput_input_same _ _ _ hi]
      exact ⟨kept, rfl⟩

theorem startFrame_moves {i : Nat} (hi : i < 16) (ho : (s.input i).state ≠ .off) (b : Ticks) (w h : Nat) (prog : Bool) :
    Moves p s (startFrame i b w h prog s) := by
  unfold startFrame
  extract_lets u interval slot v s' s''
  have started : Moves p s s' := (Quiet.refl s).thenUnit hi (.started _ interval b ho)
  have written : Moves p s s'' := by
    simp only [s'']
    generalize slot = o
    cases o with
    | none => exact started
    | some n => exact started.thenQuiet (quiet_beginWrite _ _ _)
  split
  · split
    · exact written.thenQuiet (quiet_lockPoint _ _)
    · exact written
  · exact written

theorem expireTimer_moves {i : Nat} (hi : i < 16) (s : State) : Moves p s (expireTimer i s) := by
  unfold expireTimer
  split
  · exact .refl s
  · rename_i b hb
    refine Moves.thenQuiet (Moves.thenQuiet ?_ (quiet_takeFrameEvent i _ _)) (quiet_settlePresence _ _)
    exact ((Quiet.refl s).reach.trans (quiet_emptied _ i _)).thenUnit hi (.expired b hb)

theorem frameStart_moves {i : Nat} (hi : i < 16) (b : Ticks) (w h : Nat) (prog : Bool) (s : State) :
    Moves [] s (frameStart i b w h prog s) := by
  unfold frameStart
  dsimp only
  split
  · exact (Quiet.refl s).reach.moves
  · rename_i ho
    refine ((Quiet.refl s).reach.moves.trans (endFrame_moves hi b true _)).trans (startFrame_moves hi ?_ b w h prog)
    rw [Ne, (endFrame_input hi b true [] _).1]
    exact ho

theorem frameEnd_moves {i : Nat} (hi : i < 16) (b : Ticks) (flagged : Bool) (s : State) :
    Moves p s (frameEnd i b flagged p s) := by
  unfold frameEnd
  dsimp only
  split
  · exact (Quiet.refl s).reach.moves
  · exact (Quiet.refl s).reach.moves.trans (endFrame_moves hi b flagged _)

theorem midway_moves {i : Nat} (hi : i < 16) (s : State) : Moves p s (midway i s) := by
  unfold midway
  split
  · exact .refl s
  · dsimp only
    split
    · exact ((Quiet.refl s).reach.thenUnit hi .passed).thenQuiet (quiet_lockPoint _ _)
    · exact (Quiet.refl s).reach.thenUnit hi .passed

/-! #### The requests -/

/-- An accepted Input Setup passed its ranges (R18 (1)). -/
theorem checkInputSetup_none {q : InputSetupFields} (h : checkInputSetup q s = none) : inputSetupOk q = true := by
  unfold checkInputSetup at h
  split at h
  · cases h
  · rename_i hq
    simpa using hq

theorem applyInputSetup_moves {q : InputSetupFields} (hq : inputSetupOk q = true) (s : State) :
    Moves p s (applyInputSetup q s) := by
  have hi : q.input < 16 := Nat.lt_succ_of_le ((inputSetupOk_iff q).1 hq).1
  unfold applyInputSetup
  dsimp only
  split
  · exact (Quiet.refl s).thenUnit hi (.resized q hq)
  · rename_i ho _
    unfold enableInput
    refine Moves.thenQuiet ?_ (quiet_raiseInput _ _ _ _ _)
    refine Moves.thenQuiet ?_ (quiet_allocateRing _ _ _)
    exact (Quiet.refl s).thenUnit hi (.enabled q hq ho)
  · unfold disableInput
    refine Moves.thenQuiet ?_ (quiet_settlePresence _ _)
    refine Moves.thenQuiet ?_ (quiet_releaseRing _ _)
    refine Moves.thenQuiet ?_ (quiet_raiseInput _ _ _ _ _)
    exact (quiet_emptied _ q.input s).thenUnit hi (.disabled q hq)
  · exact (Quiet.refl s).thenUnit hi (.stored q hq)

theorem resetInput_moves {i : Nat} (hi : i < 16) (s : State) : Moves p s (resetInput i s) := by
  unfold resetInput
  refine Moves.thenQuiet ?_ (quiet_settlePresence _ _)
  refine Moves.thenQuiet ?_ (quiet_failGrab _ _ _)
  refine Moves.thenQuiet ?_ (quiet_unfreezeAll _ _)
  refine Moves.thenQuiet ?_ (quiet_markStale _ _)
  refine Moves.thenQuiet ?_ (quiet_raiseInput _ _ _ _ _)
  exact (quiet_emptied _ i s).thenUnit hi .reset

theorem requestInputSetup_moves (tag : Byte) (q : InputSetupFields) (s : State) :
    Moves p s (requestInputSetup tag q s) := by
  unfold requestInputSetup
  split
  · exact (quiet_answer _ _ _ _).moves
  · rename_i hq
    exact (applyInputSetup_moves (checkInputSetup_none hq) s).thenQuiet (quiet_answer _ _ _ _)

theorem requestInputReset_moves (tag : Byte) (i : Nat) (s : State) : Moves p s (requestInputReset tag i s) := by
  unfold requestInputReset
  split
  · exact (quiet_answer _ _ _ _).moves
  · rename_i hc
    have hi : i < 16 := by
      unfold checkInputReset at hc
      split at hc
      · cases hc
      · omega
    exact Moves.trans (Quiet.refl s).setLink.moves (resetInput_moves hi _)

theorem requestInputQuery_moves (tag : Byte) (i clear : Nat) (s : State) :
    Moves p s (requestInputQuery tag i clear s) := by
  unfold requestInputQuery
  dsimp only
  split
  · rename_i hc
    simp only [Bool.and_eq_true, decide_eq_true_eq] at hc
    split
    · exact (quiet_answerData _ _ _ _).thenUnit (by omega) .cleared
    · exact (quiet_answerData _ _ _ _).moves
  · exact (quiet_answer _ _ _ _).moves

/-- The colours of a Window Stage in range are in range (Table 5.3). -/
theorem stagedConfig_coloursInRange {q : WindowStageFields} (h : windowStageOk q = true) :
    (stagedConfig q).coloursInRange := by
  simp only [windowStageOk, Bool.and_eq_true] at h
  exact ⟨h.1.1.1.1.1.2, h.1.1.1.1.2⟩

theorem requestWindowStage_moves (tag : Byte) (q : WindowStageFields) (s : State) :
    Moves p s (requestWindowStage tag q s) := by
  unfold requestWindowStage
  split
  · exact (quiet_answer _ _ _ _).moves
  · rename_i hc
    have ok : windowStageOk q = true := by
      unfold checkWindowStage at hc
      split at hc
      · cases hc
      · rename_i hq
        simpa using hq
    refine Moves.thenQuiet ?_ (quiet_answer _ _ _ _)
    exact (Moves.refl s).then (.stageWindow _ _ (stagedConfig_coloursInRange ok) rfl)

theorem requestSceneStage_moves (tag : Byte) (q : SceneStageFields) (s : State) :
    Moves p s (requestSceneStage tag q s) := by
  unfold requestSceneStage
  split
  · exact (quiet_answer _ _ _ _).moves
  · rename_i hc
    have ok : colourOk q.background = true := by
      unfold checkSceneStage at hc
      split at hc
      · cases hc
      · rename_i hq
        simp only [Bool.not_eq_true', Bool.not_eq_false, sceneStageOk, Bool.and_eq_true] at hq
        exact hq.1.1.1.2
    refine Moves.thenQuiet ?_ (quiet_answer _ _ _ _)
    exact (Moves.refl s).then (.stageScene _ _ ok rfl)

theorem quiet_enterTable (tag : Byte) (x : PendingTarget) (s : State) : Quiet s (enterTable tag x s) := .same rfl

theorem quiet_reserveSlot (i : Nat) (s : State) : Quiet s (reserveSlot i s) := by
  unfold reserveSlot
  split
  · exact .refl s
  · exact ((Quiet.refl s).setSlot (Slot.fades_toEmpty _ _)).setReservation

theorem quiet_requestGrab (tag : Byte) (i e : Nat) (s : State) : Quiet s (requestGrab tag i e s) := by
  unfold requestGrab
  split
  · exact quiet_answer _ _ _ _
  · exact (quiet_reserveSlot i s).trans (quiet_enterTable _ _ _)

theorem quiet_requestTakeFrame (tag : Byte) (k : Nat) (s : State) : Quiet s (requestTakeFrame tag k s) := by
  unfold requestTakeFrame
  split
  · exact quiet_answer _ _ _ _
  · refine Quiet.trans ?_ (quiet_enterTable _ _ _)
    exact (Quiet.refl s).setScene ⟨rfl, .inl rfl⟩

theorem quiet_requestTakeNow (tag : Byte) (k : Nat) (s : State) : Quiet s (requestTakeNow tag k s) := by
  unfold requestTakeNow
  dsimp only
  split
  · exact quiet_answer _ _ _ _
  · refine Quiet.trans ?_ (quiet_answer _ _ _ _)
    split
    · exact (quiet_applyTake _ _ _ _).trans (quiet_claimScene _ _ _ _)
    · exact quiet_applyTake _ _ _ _

theorem quiet_requestFreeze (tag : Byte) (w f : Nat) (s : State) : Quiet s (requestFreeze tag w f s) := by
  unfold requestFreeze
  split
  · exact quiet_answer _ _ _ _
  · refine Quiet.trans ?_ (quiet_answer _ _ _ _)
    exact (Quiet.refl s).setWindow ⟨.inl rfl, .inl rfl⟩

theorem quiet_requestBind (tag : Byte) (w k : Nat) (s : State) : Quiet s (requestBind tag w k s) := by
  unfold requestBind
  split
  · exact quiet_answer _ _ _ _
  · refine Quiet.trans ?_ (quiet_answer _ _ _ _)
    exact (Quiet.refl s).setWindow ⟨.inl rfl, .inl rfl⟩

theorem quiet_requestUnbind (tag : Byte) (w : Nat) (s : State) : Quiet s (requestUnbind tag w s) := by
  unfold requestUnbind
  split
  · exact quiet_answer _ _ _ _
  · split
    · exact quiet_answer _ _ _ _
    · refine Quiet.trans ?_ (quiet_answer _ _ _ _)
      exact (Quiet.refl s).setWindow ⟨.inr rfl, .inr (.inr rfl)⟩

theorem quiet_requestDrop (tag : Byte) (e : Nat) (s : State) : Quiet s (requestDrop tag e s) := by
  unfold requestDrop
  split
  · exact quiet_answer _ _ _ _
  · split
    · exact quiet_answer _ _ _ _
    · exact (quiet_retireStill e s).setStill.trans (quiet_answer _ _ _ _)

theorem quiet_requestPortSetup (tag : Byte) (q : PortSetupFields) (s : State) :
    Quiet s (requestPortSetup tag q s) := by
  have applied : Quiet s (applyPortSetup q s) := by
    unfold applyPortSetup
    dsimp only
    split
    · exact (Quiet.refl s).setPort
    · split <;> exact quiet_takeCauses _ _ _ s
  unfold requestPortSetup
  split
  · exact applied.trans (quiet_answer _ _ _ _)
  · exact quiet_answer _ _ _ _

theorem quiet_requestHold (tag : Byte) (n : Nat) (s : State) : Quiet s (requestHold tag n s) := by
  unfold requestHold
  split
  · exact quiet_answer _ _ _ _
  · split
    · exact quiet_answer _ _ _ _
    · exact (quiet_takeCauses _ _ _ s).trans (quiet_answer _ _ _ _)

theorem quiet_requestResume (tag : Byte) (n : Nat) (s : State) : Quiet s (requestResume tag n s) := by
  unfold requestResume
  split
  · exact quiet_answer _ _ _ _
  · exact (Quiet.refl s).setPort.trans (quiet_answer _ _ _ _)

theorem quiet_requestAssignFrame (tag : Byte) (n k : Nat) (s : State) : Quiet s (requestAssignFrame tag n k s) := by
  unfold requestAssignFrame
  split
  · exact quiet_answer _ _ _ _
  · exact quiet_enterTable _ _ _

theorem quiet_requestAssignNow (tag : Byte) (n k : Nat) (s : State) : Quiet s (requestAssignNow tag n k s) := by
  unfold requestAssignNow
  split
  · exact quiet_answer _ _ _ _
  · exact (quiet_applyAssignNow _ _ s).trans (quiet_answer _ _ _ _)

/-- Timing Setup and the requests after it write the time base, the event unit and the link at most, none of which
`Quiet` speaks of. -/
theorem quiet_requestTimingSetup (tag : Byte) (rate source input : Nat) (s : State) :
    Quiet s (requestTimingSetup tag rate source input s) := by
  unfold requestTimingSetup
  split <;> exact .same rfl

theorem quiet_requestEventEnable (tag : Byte) (es ms : List Nat) (s : State) :
    Quiet s (requestEventEnable tag es ms s) := by
  unfold requestEventEnable
  split <;> exact .same rfl

theorem quiet_requestEventAck (tag : Byte) (event inst : Nat) (s : State) :
    Quiet s (requestEventAck tag event inst s) := by
  unfold requestEventAck
  split <;> exact .same rfl

theorem quiet_requestDeviceQuery (tag : Byte) (clear : Nat) (s : State) :
    Quiet s (requestDeviceQuery tag clear s) := by
  unfold requestDeviceQuery
  dsimp only
  split
  · split <;> exact .same rfl
  · exact .same rfl

theorem quiet_requestDeviceReset (tag : Byte) (s : State) : Quiet s (requestDeviceReset tag s) := .same rfl

theorem quiet_requestStoreQuery (tag : Byte) (v i : Nat) (s : State) : Quiet s (requestStoreQuery tag v i s) := by
  unfold requestStoreQuery
  split <;> exact .same rfl

theorem quiet_requestWindowQuery (tag : Byte) (w : Nat) (s : State) : Quiet s (requestWindowQuery tag w s) := by
  unfold requestWindowQuery
  split <;> exact .same rfl

theorem quiet_requestSceneQuery (tag : Byte) (k : Nat) (s : State) : Quiet s (requestSceneQuery tag k s) := by
  unfold requestSceneQuery
  split <;> exact .same rfl

theorem quiet_requestPortQuery (tag : Byte) (n : Nat) (s : State) : Quiet s (requestPortQuery tag n s) := by
  unfold requestPortQuery
  split <;> exact .same rfl

/-- Whatever its owner does with a request is a chain of moves (R151). -/
theorem handOver_moves (c : Instr) (s : State) : Moves p s (handOver c s) := by
  cases c with
  | inputSetup tag q => exact requestInputSetup_moves tag q s
  | inputReset tag i => exact requestInputReset_moves tag i s
  | inputQuery tag i clear => exact requestInputQuery_moves tag i clear s
  | windowStage tag q => exact requestWindowStage_moves tag q s
  | sceneStage tag q => exact requestSceneStage_moves tag q s
  | stillGrab tag i e => exact (quiet_requestGrab tag i e s).moves
  | stillDrop tag e => exact (quiet_requestDrop tag e s).moves
  | storeQuery tag v i => exact (quiet_requestStoreQuery tag v i s).moves
  | windowBind tag w k => exact (quiet_requestBind tag w k s).moves
  | windowUnbind tag w => exact (quiet_requestUnbind tag w s).moves
  | windowFreeze tag w f => exact (quiet_requestFreeze tag w f s).moves
  | windowQuery tag w => exact (quiet_requestWindowQuery tag w s).moves
  | sceneTakeFrame tag k => exact (quiet_requestTakeFrame tag k s).moves
  | sceneTakeNow tag k => exact (quiet_requestTakeNow tag k s).moves
  | sceneQuery tag k => exact (quiet_requestSceneQuery tag k s).moves
  | portSetup tag q => exact (quiet_requestPortSetup tag q s).moves
  | portAssignFrame tag n k => exact (quiet_requestAssignFrame tag n k s).moves
  | portAssignNow tag n k => exact (quiet_requestAssignNow tag n k s).moves
  | portHold tag n => exact (quiet_requestHold tag n s).moves
  | portResume tag n => exact (quiet_requestResume tag n s).moves
  | portQuery tag n => exact (quiet_requestPortQuery tag n s).moves
  | timingSetup tag r src i => exact (quiet_requestTimingSetup tag r src i s).moves
  | eventEnable tag es ms => exact (quiet_requestEventEnable tag es ms s).moves
  | eventAck tag e i => exact (quiet_requestEventAck tag e i s).moves
  | deviceQuery tag clear => exact (quiet_requestDeviceQuery tag clear s).moves
  | deviceReset tag => exact (quiet_requestDeviceReset tag s).moves
  | unknownKind tag kind q => exact (quiet_answer tag kind .unknownKind s).moves
  | _ => exact .refl s

/-! #### Dispatch -/

theorem dispatchFrame_moves (f : Frame) (s : State) : Moves p s (dispatchFrame f s) := by
  have reserved : Moves p s (reservePlace s) := (Quiet.refl s).setLink.moves
  unfold dispatchFrame
  split
  · exact reserved.thenQuiet (quiet_answer _ _ _ _)
  · exact reserved.trans (handOver_moves _ _)

theorem drain_moves : ∀ (n : Nat) (s : State), Moves p s (drain n s)
  | 0, s => .refl s
  | n + 1, s => by
    unfold drain
    split
    · exact .refl s
    · split
      · exact ((Quiet.refl s).setLink.moves.trans (dispatchFrame_moves _ _)).trans (drain_moves n _)
      · exact .refl s

theorem drainQueue_moves (s : State) : Moves p s (drainQueue s) := drain_moves _ s

theorem arrive_moves (c : Instr) (s : State) : Moves p s (arrive c (handOver c) s) := by
  unfold arrive
  split
  · exact (Quiet.refl s).setLink.moves.trans (handOver_moves c _)
  · split
    · exact (quiet_queueFrame _ s).moves
    · exact .refl s

theorem receive_moves (b : Ticks) (x : Byte) (s : State) : Moves p s (receive b x s) := by
  unfold receive
  split
  · split
    · exact (Quiet.refl s).setLink.moves
    · exact .refl s
  · split
    · exact (Quiet.refl s).setLink.moves
    · exact (quiet_discard s).moves
  · exact (Quiet.refl s).setLink.moves
  · exact (Quiet.refl s).setLink.moves
  · split
    · exact ((Quiet.refl s).setLink.trans (quiet_queueFrame _ _)).moves.trans (drainQueue_moves _)
    · exact (quiet_discard s).moves

theorem beginSending_moves (s : State) : Moves p s (beginSending s) := by
  unfold beginSending
  split
  · exact .refl s
  · exact (Quiet.refl s).setLink.moves.trans (drainQueue_moves _)
  · split
    · exact (Quiet.refl s).setEvents.setLink.moves
    · exact .refl s

theorem finishSending_moves (b : Ticks) (s : State) : Moves p s (finishSending b s) := by
  unfold finishSending
  split
  · exact (Moves.refl s).then (.reset _ _)
  · split
    · exact (Quiet.refl s).reach.setLink.moves
    · exact .refl s

/-! #### Every command -/

/-- The picture that a command delivers; none but the end of a frame delivers one. -/
def deliveredBy : Instr → Picture
  | .frameEnd _ _ _ p => p
  | .stillGrabComplete _ _ p => p
  | _ => []

theorem quiet_setLine (line : OverrideLine) (level : Bool) (s : State) : Quiet s (s.setLine line level) := by
  cases line <;> exact .same rfl

/-- An event whose effect is a chain of moves; under the RESET line nothing happens (R157). -/
theorem running_moves {f : State → State} (hf : ∀ s, Moves p s (f s)) (h : whenRunning s f = .next t) :
    Moves p s t := by
  rw [whenRunning_next.1 h]
  split
  · exact .refl s
  · exact hf s

/-- An event whose effect is quiet. -/
theorem running_quiet {f : State → State} (hf : ∀ s, Quiet s (f s)) (h : whenRunning s f = .next t) : Moves p s t :=
  running_moves (fun s => (hf s).moves) h

/-- A request row is the arrival of its frame (log entry 17). -/
theorem request_moves {c : Instr} (h : whenRunning s (arrive c (handOver c)) = .next t) : Moves p s t :=
  running_moves (arrive_moves c) h

/-- Every command is a chain of moves. -/
theorem exec_moves {c : Instr} (h : exec c s = .next t) : Moves (deliveredBy c) s t := by
  cases c with
  | inputSetup | inputReset | inputQuery | stillGrab | stillDrop | storeQuery | windowBind | windowUnbind | windowStage
  | windowFreeze | windowQuery | sceneStage | sceneTakeFrame | sceneTakeNow | sceneQuery | portSetup
  | portAssignFrame | portAssignNow | portHold | portResume | portQuery | timingSetup | eventEnable | eventAck
  | deviceQuery | deviceReset => exact request_moves h
  | unknownKind tag kind q =>
    exact running_moves (fun s => (quiet_queueFrame _ s).moves.trans (drainQueue_moves _)) h
  | resetLineAssert =>
    obtain rfl : (if s.resetLine then s else resetPart s.now [] { s with resetLine := true }) = t := by
      injection h
    split
    · exact .refl s
    · exact (Quiet.same rfl : Quiet s { s with resetLine := true }).moves.then (.reset _ _)
  | resetLineDeassert b =>
    obtain rfl : (if s.resetLine then resetPart (max s.now b) [restartEntry .line] { s with resetLine := false }
      else s) = t := by injection h
    split
    · exact (Quiet.same rfl : Quiet s { s with resetLine := false }).moves.then (.reset _ _)
    · exact .refl s
  | deviceResetExecute b =>
    simp only [exec, execDeviceResetExecute] at h
    refine running_moves ?_ h
    intro s
    split
    · exact (Moves.refl s).then (.reset _ _)
    · exact .refl s
  | overrideAssert line | overrideDeassert line =>
    injection h with h
    rw [← h]
    split
    · exact (quiet_setLine _ _ s).moves
    · exact (quiet_moveLine _ _ _).moves
  | frameStart i b w hh prog => exact running_moves (frameStart_moves i.isLt b w hh prog) h
  | frameEnd i b flagged q => exact running_moves (frameEnd_moves i.isLt b flagged) h
  | lossOfSignal i b => exact running_moves (frameEnd_moves i.isLt b true) h
  | missingFrameTimerExpiry i => exact running_moves (expireTimer_moves i.isLt) h
  | stillGrabComplete i b q =>
    simp only [exec, execStillGrabComplete] at h
    refine running_moves ?_ h
    intro s
    split
    · exact frameEnd_moves i.isLt b false s
    · exact .refl s
  | grabTimeout i =>
    simp only [exec, execGrabTimeout] at h
    refine running_quiet ?_ h
    intro s
    split
    · exact quiet_failGrab _ _ s
    · exact .refl s
  | inputResetComplete i => exact running_quiet (fun s => quiet_endPending _ s) h
  | outputFrameBoundary =>
    simp only [exec, execOutputFrameBoundary] at h
    refine running_quiet ?_ h
    intro s
    split
    · exact quiet_takeBoundary _ s
    · exact .refl s
  | outputLineStart => exact running_quiet quiet_startLine h
  | timingSetupApply =>
    simp only [exec, execTimingSetupApply] at h
    refine running_quiet ?_ h
    intro s
    split
    · exact (Quiet.refl s).reach.trans (quiet_settleStaged _)
    all_goals exact .refl s
  | sceneTakeApply k =>
    simp only [exec, execSceneTakeApply] at h
    refine running_quiet ?_ h
    intro s
    split
    · exact (quiet_applyPendingTake s _).trans (quiet_endPending _ _)
    · exact .refl s
  | portAssignComplete n =>
    simp only [exec, execPortAssignComplete] at h
    refine running_quiet ?_ h
    intro s
    split
    · exact (Quiet.refl s).setPort.trans (quiet_endPending _ _)
    · exact .refl s
  | freezeOrderOn w =>
    simp only [exec, execFreezeOrderOn] at h
    refine running_quiet ?_ h
    intro s
    split
    · split
      · exact (quiet_carryOutFreeze s _).trans (quiet_pinWindow _ _ _)
      · exact quiet_carryOutFreeze s _
    · exact .refl s
  | freezeOrderOff w =>
    simp only [exec, execFreezeOrderOff] at h
    refine running_quiet ?_ h
    intro s
    split
    · exact quiet_carryOutFreeze s _
    · exact .refl s
  | deadFramesEnd w | mixEnd w =>
    simp only [exec, execDeadFramesEnd, execMixEnd] at h
    refine running_quiet ?_ h
    intro s
    split
    · split
      · exact (Quiet.refl s).setWindow ⟨.inl rfl, .inl rfl⟩
      · exact .refl s
    all_goals exact .refl s
  | tourExpiry w =>
    simp only [exec, execTourExpiry] at h
    refine running_quiet ?_ h
    intro s
    split
    · exact quiet_expireTour _ s
    · exact .refl s
  | referencePulse b => exact running_quiet (quiet_pulse b) h
  | referenceTimeout => exact running_quiet quiet_referenceLost h
  | lockPointMidway i => exact running_moves (midway_moves i.isLt) h
  | holdoverExpiry => exact running_quiet quiet_holdoverEnds h
  | byteReceived b x =>
    exact running_moves (fun s => (Quiet.refl s).reach.moves.trans (receive_moves b x _)) h
  | gapTimerExpiry =>
    simp only [exec, execGapTimerExpiry] at h
    refine running_quiet ?_ h
    intro s
    split
    · exact (Quiet.refl s).reach.trans (quiet_discard _)
    · exact .refl s
  | transmitStart => exact running_moves beginSending_moves h
  | transmitComplete b => exact running_moves (finishSending_moves b) h

/-- A step idles, or it is the chain of moves of the command at the front of the queue. -/
theorem step_moves (h : step s = .next t) :
    t = s ∨ ∃ c rest, s.pending = c :: rest ∧ Moves (deliveredBy c) { s with pending := rest } t := by
  unfold step at h
  split at h
  · injection h with h
    exact .inl h.symm
  · rename_i c rest hp
    exact .inr ⟨c, rest, hp, exec_moves h⟩

/-- What every move keeps, a chain of moves keeps. -/
theorem Moves.keep {P : State → Prop} (hP : ∀ s t, P s → Move p s t → P t) (hs : P s) (h : Moves p s t) : P t := by
  induction h with
  | refl => exact hs
  | tail _ m ih => exact hP _ _ ih m

/-! #### The capture units -/

theorem InputsSound.of_quiet (h : InputsSound s) (hq : Quiet s t) : InputsSound t :=
  fun i hi => hq.input i ▸ h i hi

/-- A written unit reads as written, any other as before. -/
theorem setInput_input_cases (s : State) (i j : Nat) (x : Input) :
    (s.setInput i x).input j = x ∨ (s.setInput i x).input j = s.input j :=
  (look_put_cases s.inputs x Input.reset i j).imp_left (·.2)

/-- After a part-wide reset every unit holds its reset values (R164). -/
theorem resetPart_input (b : Ticks) (es : List Entry) (s : State) (i : Nat) :
    (resetPart b es s).input i = Input.reset := reset_input i

theorem Move.inputsSound (h : InputsSound s) (m : Move p s t) : InputsSound t := by
  cases m with
  | quiet hq => exact h.of_quiet hq
  | unit i v hi m =>
    intro j hj
    rcases setInput_input_cases s i j v with e | e <;> rw [e]
    · exact m.sound (h i hi)
    · exact h j hj
  | fill | stageWindow | stageScene => exact h
  | reset b es =>
    intro j _
    rw [resetPart_input]
    exact inputSound_reset

/-- Settles O11: every command is a chain of moves, each of which keeps every unit sound. -/
theorem inputsStaySound : Obligations.InputsStaySound := by
  intro s t h hstep
  rcases step_moves hstep with rfl | ⟨c, rest, -, m⟩
  · exact h
  · exact m.keep (fun _ _ => Move.inputsSound) (show InputsSound { s with pending := rest } from h)

/-! #### The stored frames -/

theorem StoredFramesSound.of_quiet (h : StoredFramesSound s) (hq : Quiet s t) : StoredFramesSound t where
  formats n hn f hf := by
    rcases (hq.slots n).2 with e | e
    · exact h.formats n hn f (e ▸ hf)
    · rw [e] at hf; cases hf
  locked i hi := hq.input i ▸ h.locked i hi
  pictures n hn := (hq.slots n).1 ▸ h.pictures n hn

/-- After a part-wide reset every slot is FREE with the picture it had (Table 2.1, note 2). -/
theorem resetPart_slot (b : Ticks) (es : List Entry) (s : State) (n : Nat) :
    (resetPart b es s).slot n = { Slot.reset with picture := (s.slot n).picture } := by
  by_cases h : n < 96
  · exact look_map s.slots (fun x => { Slot.reset with picture := x.picture }) Slot.reset h
  · rw [State.slot, State.slot, look_outside _ _ (Nat.le_of_not_lt h), look_outside _ _ (Nat.le_of_not_lt h)]

/-- A supported format fits the raster (R4). -/
theorem Format.supported_height {f : Format} (h : f.supported = true) : f.height ≤ 1080 := by
  simp only [Format.supported, Bool.and_eq_true, decide_eq_true_eq] at h
  exact h.2

theorem Move.storedFramesSound (h : StoredFramesSound s) (m : Move p s t) : StoredFramesSound t := by
  cases m with
  | quiet hq => exact h.of_quiet hq
  | unit i v hi m =>
    refine { h with locked := fun j hj => ?_ }
    rcases setInput_input_cases s i j v with e | e <;> rw [e]
    · exact m.locksSupported (h.locked i hi)
    · exact h.locked j hj
  | fill i n f x hi hl hc hp hf =>
    have supported : f.supported = true := by
      obtain ⟨g, hg, hs⟩ := h.locked i hi (.inl hl)
      rw [hc] at hg
      cases hg
      exact hs
    refine { h with formats := fun m hm g hg => ?_, pictures := fun m hm => ?_ } <;>
      rcases look_put_cases s.slots x Slot.reset n m with ⟨-, e⟩ | e
    · rw [show (s.setSlot n x).slot m = x from e, hf] at hg
      cases hg
      exact supported
    · rw [show (s.setSlot n x).slot m = s.slot m from e] at hg
      exact h.formats m hm g hg
    · rw [show (s.setSlot n x).slot m = x from e, hp]
      exact writeFrame_canonical (Format.supported_height supported) p
    · rw [show (s.setSlot n x).slot m = s.slot m from e]
      exact h.pictures m hm
  | stageWindow | stageScene => exact ⟨h.formats, h.locked, h.pictures⟩
  | reset b es =>
    refine ⟨fun n _ f hf => ?_, fun i _ hs => ?_, fun n hn => ?_⟩
    · rw [resetPart_slot] at hf; cases hf
    · rw [resetPart_input] at hs; simp [Input.reset] at hs
    · rw [resetPart_slot]; exact h.pictures n hn

/-! #### The colours -/

/-- Every colour of the picture is in range (Table 0.3). -/
def Picture.InRange (p : Picture) : Prop := ∀ x ∈ p, x.2.inRange = true

/-- A pixel written in range leaves a picture in range. -/
theorem Picture.InRange.writePixel {q : Picture} (h : Picture.InRange q) (x : Nat) {c : Colour} (hc : c.inRange = true) :
    Picture.InRange (writePixel q x c) := by
  have mem : ∀ y ∈ Machine.writePixel q x c, y ∈ q ∨ y = (x, c) := by
    clear h
    induction q with
    | nil =>
      intro y hy
      simp only [Machine.writePixel] at hy
      split at hy <;> simp_all
    | cons z rest ih =>
      obtain ⟨a, d⟩ := z
      intro y hy
      simp only [Machine.writePixel] at hy
      split at hy
      · split at hy <;> simp_all
        tauto
      · split at hy
        · split at hy
          · exact .inl (List.mem_cons_of_mem _ hy)
          · rcases List.mem_cons.1 hy with rfl | hy
            · exact .inr rfl
            · exact .inl (List.mem_cons_of_mem _ hy)
        · rcases List.mem_cons.1 hy with rfl | hy
          · exact .inl (List.mem_cons_self ..)
          · exact (ih y hy).imp_left (List.mem_cons_of_mem _)
  intro y hy
  rcases mem y hy with hy | rfl
  · exact h y hy
  · exact hc

/-- A frame delivered in range leaves a picture in range. -/
theorem Picture.InRange.writeFrame {q : Picture} (h : Picture.InRange q) (w l : Nat) :
    Picture.InRange (writeFrame w l q) := by
  have fold : ∀ (l r : Picture), Picture.InRange l → Picture.InRange r →
      Picture.InRange (l.foldl (fun r x => Machine.writePixel r x.1 x.2) r) := by
    intro l
    induction l with
    | nil => exact fun r _ hr => hr
    | cons x rest ih =>
      exact fun r hl hr => ih _ (fun y hy => hl y (List.mem_cons_of_mem _ hy))
        (hr.writePixel _ (hl x (List.mem_cons_self ..)))
  exact fold _ [] (fun x hx => h x (List.mem_filter.1 hx).1) nofun

theorem ColoursInRange.of_quiet (h : ColoursInRange s) (hq : Quiet s t) : ColoursInRange t where
  pictures n := (hq.slots n).1 ▸ h.pictures n
  substitutes i := hq.input i ▸ h.substitutes i
  choices e he c hc := by
    rcases hq.choices e he c hc with ⟨d, hd, hd'⟩ | ⟨i, rfl⟩
    · exact h.choices d hd c hd'
    · exact h.substitutes i
  scenes k := by
    obtain ⟨hs, hl⟩ := hq.scenes k
    refine ⟨hs ▸ (h.scenes k).1, ?_⟩
    rcases hl with e | e <;> rw [e]
    · exact (h.scenes k).2
    · exact (h.scenes k).1
  windows w := by
    obtain ⟨hs, hl⟩ := hq.windows w
    constructor
    · rcases hs with e | e <;> rw [e]
      · exact (h.windows w).1
      · exact coloursInRange_config_reset
    · rcases hl with e | e | e <;> rw [e]
      · exact (h.windows w).2
      · exact (h.windows w).1
      · exact coloursInRange_config_reset

theorem Move.coloursInRange (hp : Picture.InRange p) (h : ColoursInRange s) (m : Move p s t) : ColoursInRange t := by
  cases m with
  | quiet hq => exact h.of_quiet hq
  | unit i v hi m =>
    refine { h with substitutes := fun j => ?_ }
    rcases setInput_input_cases s i j v with e | e <;> rw [e]
    · exact m.substColour (h.substitutes i)
    · exact h.substitutes j
  | fill i n f x hi hl hc hx hf =>
    refine { h with pictures := fun m => ?_ }
    rcases look_put_cases s.slots x Slot.reset n m with ⟨-, e⟩ | e
    · rw [show (s.setSlot n x).slot m = x from e, hx, List.all_eq_true]
      exact hp.writeFrame _ _
    · rw [show (s.setSlot n x).slot m = s.slot m from e]
      exact h.pictures m
  | stageWindow w x hx hl =>
    refine { h with windows := fun v => ?_ }
    rcases look_put_cases s.windows x Window.reset w v with ⟨-, e⟩ | e
    · rw [show (s.setWindow w x).window v = x from e, hl]
      exact ⟨hx, (h.windows w).2⟩
    · rw [show (s.setWindow w x).window v = s.window v from e]
      exact h.windows v
  | stageScene k x hx hl =>
    refine { h with scenes := fun j => ?_ }
    rcases look_put_cases s.scenes x Scene.reset k j with ⟨-, e⟩ | e
    · rw [show (s.setScene k x).scene j = x from e, hl]
      exact ⟨hx, (h.scenes k).2⟩
    · rw [show (s.setScene k x).scene j = s.scene j from e]
      exact h.scenes j
  | reset b es =>
    exact {
      pictures := fun n => by rw [resetPart_slot]; exact h.pictures n
      substitutes := coloursInRange_reset.substitutes
      choices := coloursInRange_reset.choices
      scenes := coloursInRange_reset.scenes
      windows := coloursInRange_reset.windows }

/-- A well-formed command delivers colours in range only (Table 0.3). -/
theorem deliveredBy_inRange {c : Instr} (h : c.wellFormed = true) : Picture.InRange (deliveredBy c) := by
  have fits : ∀ q : Picture, q.fits = true → Picture.InRange q := fun q hq => by
    simp only [Picture.fits, Bool.and_eq_true, List.all_eq_true] at hq
    exact hq.2
  cases c with
  | frameEnd i b flagged q => exact fits q h
  | stillGrabComplete i b q => exact fits q h
  | _ => exact nofun

/-- No move touches the commands that wait. -/
theorem Move.pending (m : Move p s t) : t.pending = s.pending := by
  cases m with
  | quiet hq => exact hq.pending
  | _ => rfl

theorem Moves.pending (m : Moves p s t) : t.pending = s.pending :=
  m.keep (P := fun u => u.pending = s.pending) (fun _ _ h m => m.pending.trans h) rfl

/-- Settles O15: every command is a chain of moves, each of which keeps the stored frames sound, and the colours in
range where the picture it delivers is. -/
theorem storedFramesStaySound : Obligations.StoredFramesStaySound := by
  refine ⟨fun s t h hstep => ?_, fun s t hc h hstep => ?_⟩ <;>
    rcases step_moves hstep with rfl | ⟨c, rest, hp, m⟩
  · exact h
  · exact m.keep (fun _ _ => Move.storedFramesSound)
      (show StoredFramesSound { s with pending := rest } from ⟨h.formats, h.locked, h.pictures⟩)
  · exact ⟨hc, h⟩
  · refine ⟨fun d hd => hc d ?_, m.keep (fun _ _ => Move.coloursInRange (deliveredBy_inRange (hc c ?_)))
      (show ColoursInRange { s with pending := rest } from
        ⟨h.pictures, h.substitutes, h.choices, h.scenes, h.windows⟩)⟩
    · rw [m.pending] at hd
      rw [hp]
      exact List.mem_cons_of_mem _ hd
    · rw [hp]
      exact List.mem_cons_self ..

end Sys2Proof.Machine
end

section
/-! ### What each operation of the frame store leaves of a slot, a reservation and the link -/

namespace Sys2Proof.Machine

variable {s t : State} {i n : Nat}

/-! #### The slot being filled (R42, R44) -/

/-- The first FILLING slot of the ring in position order is the one being filled. -/
theorem fillingSlot_first {before after : List Nat} (hr : (s.ring i).slots = before ++ n :: after)
    (hn : (s.slot n).state = .filling) (hb : ∀ m ∈ before, (s.slot m).state ≠ .filling) : s.fillingSlot i = some n := by
  unfold State.fillingSlot
  rw [hr, List.find?_append, List.find?_eq_none.2 (by simpa using hb)]
  simp [hn]

/-- The slot being filled stands in the ring and is FILLING. -/
theorem fillingSlot_mem (h : s.fillingSlot i = some n) : n ∈ (s.ring i).slots ∧ (s.slot n).state = .filling :=
  ⟨List.mem_of_find?_eq_some h, by simpa using List.find?_some h⟩

/-- A place that the store lacks reads as a slot after reset. -/
theorem slot_outside (s : State) (h : 96 ≤ n) : s.slot n = Slot.reset := look_outside _ _ h

/-- A FILLING slot is one that the store has. -/
theorem lt_of_filling (h : (s.slot n).state = .filling) : n < 96 := by
  by_contra hn
  rw [slot_outside s (Nat.le_of_not_lt hn)] at h
  cases h

/-- A bad end empties the slot being filled and leaves every other (R44). -/
theorem badEnd_slot (i n : Nat) (s : State) :
    (badEnd i s).slot n = if s.fillingSlot i = some n then (s.slot n).toEmpty (.input i) else s.slot n := by
  unfold badEnd
  cases h : s.fillingSlot i with
  | none => simp
  | some m =>
    by_cases e : n = m
    · subst e
      simp [lt_of_filling (fillingSlot_mem h).2]
    · rw [if_neg (by simpa using Ne.symm e)]
      exact State.setSlot_slot_ne _ _ _ _ e

/-- The end of a frame that is not stored whole changes no slot outside the ring, and none that is not FILLING (R44). -/
theorem emptied_slot_of_ne (stored : Bool) (h : n ∉ (s.ring i).slots ∨ (s.slot n).state ≠ .filling) :
    (if stored then badEnd i s else s).slot n = s.slot n := by
  split
  · rw [badEnd_slot, if_neg fun hn => ?_]
    obtain ⟨hr, hf⟩ := fillingSlot_mem hn
    exact h.elim (· hr) (· hf)
  · rfl

/-- The end of a frame that is not stored whole leaves a slot as it was, or it was FILLING and is EMPTY (R44). -/
theorem emptied_slot_cases (stored : Bool) (i n : Nat) (s : State) :
    (if stored then badEnd i s else s).slot n = s.slot n
      ∨ ((s.slot n).state = .filling ∧ (if stored then badEnd i s else s).slot n = (s.slot n).toEmpty (.input i)) := by
  split
  · rw [badEnd_slot]
    split
    · exact .inr ⟨(fillingSlot_mem ‹_›).2, rfl⟩
    · exact .inl rfl
  · exact .inl rfl

/-- The end of a frame that is not stored whole changes slots only (R44). -/
theorem emptied_eq (stored : Bool) (i : Nat) (s : State) :
    (if stored then badEnd i s else s) = { s with slots := (if stored then badEnd i s else s).slots } := by
  split
  · exact badEnd_eq i s
  · rfl

/-- What FILLING slots are emptied depends on the slots and the ring only. -/
theorem FillingEmptied.of_slots {s' u : State} {stored : Bool} (h : FillingEmptied s u i stored) (hs : s'.slots = s.slots)
    (hr : s'.ring i = s.ring i) (ht : t.slots = u.slots) : FillingEmptied s' t i stored := by
  have hslot : ∀ n, s'.slot n = s.slot n := fun n => by rw [State.slot, State.slot, hs]
  constructor
  · intro h'
    rw [ht, hs]
    exact h.kept (by simpa only [hr, hslot] using h')
  · intro hst before n after hr' hn hb
    rw [ht, hs, hslot]
    exact h.emptied hst before n after (hr ▸ hr') (hslot n ▸ hn) fun m hm => hslot m ▸ hb m hm

/-! #### A ring marked stale (R54) -/

/-- Marking a slot stale keeps its pixels, its claims and its pin (R54). -/
theorem Slot.marked_holds (i : Nat) (x : Slot) :
    (x.marked i).picture = x.picture ∧ (x.marked i).claims = x.claims ∧ (x.marked i).pinned = x.pinned := by
  unfold Slot.marked
  split
  · split <;> exact ⟨rfl, rfl, rfl⟩
  all_goals exact ⟨rfl, rfl, rfl⟩

/-- Marking the ring stale marks each of its slots and no other (R54). -/
theorem markStale_slot_eq (i n : Nat) (s : State) :
    (markStale i s).slot n = if n ∈ (s.ring i).slots then (s.slot n).marked i else s.slot n := by
  split
  · rename_i h
    by_cases hn : n < 96
    · show look (alter s.slots (s.ring i).slots (Slot.marked i)) n Slot.reset = _
      rw [look_alter _ _ _ _ hn, if_pos (by simpa using h)]
      rfl
    · rw [slot_outside _ (Nat.le_of_not_lt hn), slot_outside s (Nat.le_of_not_lt hn)]
      rfl
  · exact markStale_outside ‹_›

/-- A FILLING slot of the ring is EMPTY after marking, whether or not the end of its frame had emptied it (R44, R54). -/
theorem marked_emptied (stored : Bool) (i n : Nat) (s : State) :
    ((if stored then badEnd i s else s).slot n).marked i = (s.slot n).marked i := by
  rcases emptied_slot_cases stored i n s with e | ⟨hf, e⟩ <;> rw [e]
  simp [Slot.marked, Slot.toEmpty, hf]

/-- `MarkedStale` speaks of one slot only. -/
theorem MarkedStale.of_slot {u : State} (h : MarkedStale s u i n) (e : t.slot n = u.slot n) : MarkedStale s t i n :=
  ⟨fun h1 h2 => e.trans (h.complete h1 h2), fun h1 => e.trans (h.filling h1), fun h1 h2 => e.trans (h.other h1 h2)⟩

/-- A slot of the ring that has been marked (R54). -/
theorem markedStale_of_marked (hn : n < 96) (hr : n ∈ (s.ring i).slots) (e : t.slot n = (s.slot n).marked i) :
    MarkedStale s t i n :=
  (markStale_slot hn hr).of_slot (by rw [e, markStale_slot_eq, if_pos hr])

/-! #### The end of a pending grab (R36, R37, R154) -/

/-- Returning the reservation frees its slot and touches no other (R36). -/
theorem freeReservation_slot (i n : Nat) (s : State) :
    (freeReservation i s).slot n = if s.reservation i = some n then (s.slot n).toFree else s.slot n := by
  unfold freeReservation
  cases h : s.reservation i with
  | none => simp
  | some m =>
    by_cases e : n = m
    · subst e
      rw [if_pos rfl]
      by_cases hn : n < 96
      · exact State.setSlot_slot_same _ _ _ hn
      · rw [slot_outside _ (Nat.le_of_not_lt hn), slot_outside s (Nat.le_of_not_lt hn)]
        rfl
    · rw [if_neg (by simpa using Ne.symm e)]
      exact State.setSlot_slot_ne _ _ _ _ e

/-- After its return input `i` has no reservation (R36). -/
theorem freeReservation_reservations (i : Nat) (s : State) :
    (freeReservation i s).reservations = put s.reservations i none := by
  unfold freeReservation
  split
  · rename_i h
    rw [← h]
    exact (put_look s.reservations none i).symm
  · rfl

/-- Ending requests with one status: the picked entries leave the table, and a reply for each is queued in its
place (R154). -/
theorem endWhere_link (f : PendingTarget → Bool) (status : Status) (s : State) :
    (endWhere f status s).link = { s.link with
      table := s.link.table.filter fun e => !f e.target
      replies := s.link.replies ++ (s.link.table.filter fun e => f e.target).map (PendingRequest.reply · status)
      reserved := s.link.reserved - (s.link.table.filter fun e => f e.target).length } := by
  have picked : ∀ l : List PendingRequest,
      (l.filterMap fun e => (if f e.target then some status else none).map e.reply)
        = (l.filter fun e => f e.target).map (PendingRequest.reply · status) := by
    intro l
    induction l with
    | nil => rfl
    | cons e rest ih => cases h : f e.target <;> simp_all
  have left : ∀ e : PendingRequest, (if f e.target then some status else none).isNone = !f e.target := fun e => by
    cases f e.target <;> rfl
  simp only [endWhere, endPending_eq, picked, left, List.length_map]

/-- The slots after the end of a pending grab: its reservation is FREE (R36). -/
theorem failGrab_slot (i n : Nat) (status : Status) (s : State) :
    (failGrab i status s).slot n
      = if s.hasPending (·.isGrabOf i) = true ∧ s.reservation i = some n then (s.slot n).toFree else s.slot n := by
  unfold failGrab
  by_cases h : s.hasPending (·.isGrabOf i) = true
  · simp only [h, true_and]
    exact freeReservation_slot i n s
  · simp [h]

/-- The reservations after the end of a pending grab (R36). -/
theorem failGrab_reservations (i : Nat) (status : Status) (s : State) :
    (failGrab i status s).reservations
      = if s.hasPending (·.isGrabOf i) = true then put s.reservations i none else s.reservations := by
  unfold failGrab
  split
  · exact freeReservation_reservations i s
  · rfl

/-- The link after the end of a pending grab (R154). -/
theorem failGrab_link (i : Nat) (status : Status) (s : State) :
    (failGrab i status s).link = { s.link with
      table := s.link.table.filter fun e => !e.target.isGrabOf i
      replies := s.link.replies
        ++ (s.link.table.filter fun e => e.target.isGrabOf i).map (PendingRequest.reply · status)
      reserved := s.link.reserved - (s.link.table.filter fun e => e.target.isGrabOf i).length } := by
  unfold failGrab
  split
  · rw [endWhere_link, freeReservation_eq]
  · rename_i h
    have none : ∀ e ∈ s.link.table, e.target.isGrabOf i = false := by
      simpa [State.hasPending] using h
    have kept : (s.link.table.filter fun e => !e.target.isGrabOf i) = s.link.table :=
      List.filter_eq_self.2 fun e he => by simp [none e he]
    have gone : (s.link.table.filter fun e => e.target.isGrabOf i) = [] :=
      List.filter_eq_nil_iff.2 fun e he => by simp [none e he]
    simp [kept, gone]

/-! #### A frame event of a unit (R8, R14, R36, R54) -/

/-- A frame event that does not bring SEARCHING from another state writes the unit and raises INPUT STATE where its
state changes (R14). -/
theorem takeFrameEvent_stays {v : Input} (h : (s.input i).state = .searching ∨ v.state ≠ .searching) :
    takeFrameEvent i v s = { s with
      inputs := put s.inputs i v
      events := if (s.input i).state = v.state then s.events
        else s.events.raised (.inputState i v.state v.counted) } := by
  have kept : lostLock (s.input i) v = false := by
    rcases h with h | h <;> simp [lostLock, h]
  have outside : ((s.input i).state != .searching && v.state == .searching) = false := by
    rcases h with h | h <;> simp [h]
  unfold takeFrameEvent
  simp only [kept, outside, raiseInput_eq]
  rfl

/-- A frame event that brings SEARCHING from another state also marks the ring stale and ends a pending grab with SOURCE
LOST; INPUT LOST is raised first where lock is lost (R8, R14, R16, R36, R54). -/
theorem takeFrameEvent_searches {v : Input} (hu : (s.input i).state ≠ .searching) (hv : v.state = .searching) :
    takeFrameEvent i v s = failGrab i .sourceLost (markStale i { s with
      inputs := put s.inputs i v
      events := (if (s.input i).state = .locked ∨ (s.input i).state = .suspect
        then s.events.raised (.inputLost i v.lockLosses) else s.events).raised (.inputState i v.state v.counted) }) := by
  have entered : ((s.input i).state != .searching && v.state == .searching) = true := by simp [hu, hv]
  have changed : (s.input i).state ≠ v.state := by rw [hv]; exact hu
  have lost : (lostLock (s.input i) v = true) = ((s.input i).state = .locked ∨ (s.input i).state = .suspect) := by
    simp [lostLock, hv]
  unfold takeFrameEvent
  dsimp only
  rw [if_pos entered, raiseInput_eq]
  simp only [lost, if_neg changed]
  rfl

end Sys2Proof.Machine
end

section
/-! ### The events of an input link -/

namespace Sys2Proof.Machine

variable {s t : State} {i n : Nat}

/-! #### Settling presence touches the time base and the event unit only (R65 to R67) -/

@[simp] theorem settlePresence_slots (was : Bool) (s : State) : (settlePresence was s).slots = s.slots := by
  rw [settlePresence_eq]
@[simp] theorem settlePresence_rings (was : Bool) (s : State) : (settlePresence was s).rings = s.rings := by
  rw [settlePresence_eq]
@[simp] theorem settlePresence_reservations (was : Bool) (s : State) :
    (settlePresence was s).reservations = s.reservations := by
  rw [settlePresence_eq]
@[simp] theorem settlePresence_link (was : Bool) (s : State) : (settlePresence was s).link = s.link := by
  rw [settlePresence_eq]
@[simp] theorem settlePresence_slot (was : Bool) (s : State) (j : Nat) :
    (settlePresence was s).slot j = s.slot j := by
  rw [settlePresence_eq]; rfl
@[simp] theorem settlePresence_ring (was : Bool) (s : State) (j : Nat) :
    (settlePresence was s).ring j = s.ring j := by
  rw [settlePresence_eq]; rfl
@[simp] theorem settlePresence_reservation (was : Bool) (s : State) (j : Nat) :
    (settlePresence was s).reservation j = s.reservation j := by
  rw [settlePresence_eq]; rfl

/-- What settling presence does, the time base and the event unit before it being `a` and `e` (R65 to R67). -/
theorem settlePresence_follows_of {a : TimeBase} {e : EventUnit} (was : Bool) (ha : s.time = a) (he : s.events = e) :
    TimeFollows was a e (settlePresence was s) := by
  subst ha he
  exact settlePresence_follows was s

/-- Everything a frame event of input `i` can change but the time base. -/
theorem takeFrameEvent_eq (i : Nat) (v : Input) (s : State) : takeFrameEvent i v s = { s with
    inputs := put s.inputs i v, slots := (takeFrameEvent i v s).slots, rings := (takeFrameEvent i v s).rings
    reservations := (takeFrameEvent i v s).reservations, link := (takeFrameEvent i v s).link
    events := (takeFrameEvent i v s).events } := by
  by_cases h : (s.input i).state = .searching ∨ v.state ≠ .searching
  · rw [takeFrameEvent_stays h]
  · simp only [not_or, not_not] at h
    rw [takeFrameEvent_searches h.1 h.2, failGrab_eq]
    rfl

/-! #### The end of a frame as a command -/

/-- A frame end of a unit that is not OFF (R2). -/
theorem exec_frameEnd {i : Fin 16} (hr : s.resetLine = false) (ho : (s.input i.val).state ≠ .off) (T : Ticks)
    (flagged : Bool) (p : Picture) :
    exec (.frameEnd i T flagged p) s = .next (endFrame i.val T flagged p (s.reach T)) := by
  refine (whenRunning_run hr).trans ?_
  rw [frameEnd, if_neg (show ¬((s.reach T).input i.val).state = .off from ho)]

/-- A unit in OFF takes no notice of a frame end (R7). -/
theorem exec_frameEnd_off {i : Fin 16} (hr : s.resetLine = false) (ho : (s.input i.val).state = .off) (T : Ticks)
    (flagged : Bool) (p : Picture) : exec (.frameEnd i T flagged p) s = .next (s.reach T) := by
  refine (whenRunning_run hr).trans ?_
  rw [frameEnd, if_pos (show ((s.reach T).input i.val).state = .off from ho)]

/-- A loss of signal is a frame that ends early, with no pixels (R2 (2)). -/
theorem exec_lossOfSignal (i : Fin 16) (T : Ticks) (s : State) :
    exec (.lossOfSignal i T) s = exec (.frameEnd i T true []) s := rfl

/-! #### Good ends (R15, R43) -/

/-- The conditions under which a stored frame of the counted format ends well, and the unit after it (R10, R11, R15). -/
theorem storesAtEnd_of_matching {u : Input} {f : FrameInProgress} {r : RateClass} (hs : f.stored = true)
    (hr : f.rate = some r) (hc : u.counted = some ⟨f.width, f.height, r, f.progressive⟩)
    (hu : u.state = .locked ∨ u.state = .suspect
      ∨ (u.state = .qualifying ∧ u.k ≤ u.count + 1
        ∧ (⟨f.width, f.height, r, f.progressive⟩ : Format).supported = true))
    (h0 : u.state = .locked → u.count = 0) (T : Ticks) :
    u.storesAtEnd f false T ∧ u.afterEnd f false T = { u with state := .locked, count := 0, frame := none } := by
  have judged : judge u f false = .matching := by simp [judge, hr, hc]
  have after : u.afterEnd f false T = { u with state := .locked, count := 0, frame := none } := by
    show ({ u.judged f (judge u f false) T with frame := none } : Input) = _
    rw [judged]
    simp only [Input.judged, Input.matched]
    rcases hu with hu | hu | ⟨hu, hk, hg⟩
    · rw [← hu, ← h0 hu]
      simp [hu]
    · simp [hu]
    · simp [hu, hk, hc, hg]
  exact ⟨⟨hs, judged, by rw [after]⟩, after⟩

/-- Without a pending grab a good end completes the slot being filled and enters it at the head of the age list
(R41, R43). -/
theorem goodEnd_alone (hn : s.fillingSlot i = some n) (hg : s.hasPending (·.isGrabOf i) = false) (q : Nat) (g : Format)
    (p : Picture) : goodEnd i q g p s = { s with
      slots := put s.slots n { s.slot n with
        state := .complete, owner := .input i, sequence := q, format := some g
        picture := writeFrame g.width g.height p }
      rings := put s.rings i ((s.ring i).enter n) } := by
  have noEntry : s.grabEntry i = none := by
    rw [State.grabEntry, List.findSome?_eq_none_iff]
    intro e he
    have : e.target.isGrabOf i = false := by
      rw [State.hasPending, List.any_eq_false] at hg
      simpa using hg e he
    cases h : e.target <;> simp_all [PendingTarget.isGrabOf]
  unfold goodEnd
  simp only [hn]
  split
  · rename_i e r he _
    have he : s.grabEntry i = some e := he
    rw [noEntry] at he
    cases he
  · rfl

/-- The unit after a good end (R12, R15, R16). -/
def Input.completed (u : Input) : Input :=
  { u with
    state := .locked, count := 0, frame := none, sequence := (u.sequence + 1) % 65536
    framesStored := (u.framesStored + 1) % 4294967296 }

/-- The part after the unit and the event unit have taken a good end of a frame of format `g`, before its slot has
(R14, R15). -/
def State.unitCompleted (s : State) (i : Nat) (g : Format) : State := { s with
  inputs := put s.inputs i (s.input i).completed
  events := if (s.input i).state = .locked then s.events else s.events.raised (.inputState i .locked (some g)) }

/-- A good end of input `i`: the unit and its events, the slot, and what presence gained brings (R14, R15, R43, R65). -/
theorem endFrame_good {f : FrameInProgress} {r : RateClass} (hf : (s.input i).frame = some f) (hs : f.stored = true)
    (hr : f.rate = some r) (hc : (s.input i).counted = some ⟨f.width, f.height, r, f.progressive⟩)
    (hu : (s.input i).state = .locked ∨ (s.input i).state = .suspect
      ∨ ((s.input i).state = .qualifying ∧ (s.input i).k ≤ (s.input i).count + 1
        ∧ (⟨f.width, f.height, r, f.progressive⟩ : Format).supported = true))
    (h0 : (s.input i).state = .locked → (s.input i).count = 0) (T : Ticks) (p : Picture) :
    endFrame i T false p s = settlePresence s.lockPresent
      (goodEnd i (((s.input i).sequence + 1) % 65536) ⟨f.width, f.height, r, f.progressive⟩ p
        (s.unitCompleted i ⟨f.width, f.height, r, f.progressive⟩)) := by
  obtain ⟨stores, after⟩ := storesAtEnd_of_matching hs hr hc hu h0 T
  rcases endFrame_cases hf T false p with ⟨-, g, hg, e⟩ | ⟨h, -⟩
  · have format : g = ⟨f.width, f.height, r, f.progressive⟩ := by
      simp only [FrameInProgress.format, hr, Option.map_some, Option.some.injEq] at hg
      exact hg.symm
    have event : takeFrameEvent i (s.input i).completed s = s.unitCompleted i g := by
      have stays : (s.input i).completed.state ≠ .searching := nofun
      rw [takeFrameEvent_stays (.inr stays), State.unitCompleted, format, ← hc]
      rfl
    rw [e, after, ← format]
    exact congrArg (fun u => settlePresence s.lockPresent (goodEnd i _ g p u)) event
  · exact absurd stores h

/-- Settles O55: the good end, the slot it completes, and what settling presence adds. -/
theorem goodEndCompletesTheSlot : Obligations.GoodEndCompletesTheSlot := by
  intro i T delivered f r before after n s hrun u g hf hs hr hc hu h0 hring hn _ hb hgrab
  have running : u.state ≠ .off := by
    rcases hu with h | h | ⟨h, -⟩ <;> rw [h] <;> nofun
  have filling : ((s.reach T).unitCompleted i.val g).fillingSlot i.val = some n := fillingSlot_first hring hn hb
  have ends : exec (.frameEnd i T false delivered) s = _ :=
    (exec_frameEnd hrun running T false delivered).trans
      (congrArg _ ((endFrame_good (s := s.reach T) hf hs hr hc hu h0 T delivered).trans
        (congrArg _ (goodEnd_alone filling hgrab _ g delivered))))
  refine ⟨_, ends, ?_, settlePresence_follows_of _ rfl rfl⟩
  rw [settlePresence_eq]
  rfl

end Sys2Proof.Machine
end

section
/-! ### Bad frames and frame ends that store nothing (Table 1.3) -/

namespace Sys2Proof.Machine

variable {s t : State} {i n : Nat}

/-! #### The unit -/

/-- With L at least 1 the bad-frame event of the model is that of Table 1.3 (R9, R11 to R13, R16). -/
theorem Input.bad_eq_afterBad {u : Input} (hl : 1 ≤ u.l) : u.bad = u.afterBad := by
  unfold Input.bad Input.afterBad
  cases hs : u.state with
  | locked =>
    by_cases h : u.l = 1
    · simp [h, Input.countBad, Input.countLoss, Input.toSearching]
    · simp [h, show ¬u.l ≤ 1 by omega, Input.countBad]
  | suspect =>
    by_cases h : u.count + 1 < u.l
    · simp [hs, h, show ¬u.l ≤ u.count + 1 by omega, Input.countBad]
    · simp [h, Nat.le_of_not_lt h, Input.countBad, Input.countLoss, Input.toSearching]
  | off | searching | qualifying | unsupported => simp [Input.countBad, Input.toSearching]

/-- A bad-frame event does not look at the frame in progress. -/
theorem Input.bad_withoutFrame (u : Input) : ({ u with frame := none } : Input).bad = { u.bad with frame := none } := by
  unfold Input.bad
  cases hs : u.state with
  | locked => by_cases h : u.l ≤ 1 <;> simp [h, Input.countBad, Input.countLoss, Input.toSearching]
  | suspect => by_cases h : u.l ≤ u.count + 1 <;> simp [hs, h, Input.countBad, Input.countLoss, Input.toSearching]
  | off | searching | qualifying | unsupported => simp [hs, Input.countBad, Input.toSearching]

/-- A frame that is cut short is damaged (R5). -/
theorem judge_cut (u : Input) (f : FrameInProgress) : judge u f true = .damaged := by
  unfold judge
  split <;> rfl

/-! #### The one request that ends -/

section
variable {f : PendingTarget → Bool} {before after : List PendingRequest} {q : PendingRequest} {status : Status}

/-- An entry of the picked targets stands in the table. -/
theorem hasPending_of (ht : s.link.table = before ++ q :: after) (hq : f q.target = true) : s.hasPending f = true := by
  simp [State.hasPending, ht, hq]

/-- Where one entry is picked, it leaves the table and is answered, and the others keep their order (R154). -/
theorem endWhere_alone (ht : s.link.table = before ++ q :: after) (hq : f q.target = true)
    (hx : ∀ x ∈ before ++ after, f x.target = false) :
    (endWhere f status s).link = (s.ended before after q status).link := by
  have left : ∀ l : List PendingRequest, (∀ x ∈ l, f x.target = false) →
      (l.filter fun e => !f e.target) = l ∧ (l.filter fun e => f e.target) = [] := fun l hl =>
    ⟨List.filter_eq_self.2 fun x hm => by simp [hl x hm], List.filter_eq_nil_iff.2 fun x hm => by simp [hl x hm]⟩
  obtain ⟨b1, b2⟩ := left before fun x hm => hx x (List.mem_append_left _ hm)
  obtain ⟨a1, a2⟩ := left after fun x hm => hx x (List.mem_append_right _ hm)
  rw [endWhere_link, ht]
  simp only [List.filter_append, List.filter_cons, hq, b1, b2, a1, a2]
  rfl

/-- The one grab of an input ends (R36, R154). -/
theorem failGrab_alone (ht : s.link.table = before ++ q :: after) (hq : q.target.isGrabOf i = true)
    (hx : ∀ x ∈ before ++ after, x.target.isGrabOf i = false) :
    (failGrab i status s).link = (s.ended before after q status).link := by
  have freed : (freeReservation i s).link = s.link := by rw [freeReservation_eq]
  unfold failGrab
  rw [if_pos (hasPending_of (f := (·.isGrabOf i)) ht hq), endWhere_alone (freed ▸ ht) hq hx, State.ended, freed]
  rfl

end

/-! #### The part -/

/-- The part after a frame event of input `i` at instant `T` that stores no frame: the slot being filled, if `stored`
says so, is emptied, the unit becomes `v`, and presence is settled (R14, R44, R65). -/
def State.unstoredEnd (s : State) (i : Nat) (v : Input) (stored : Bool) (T : Ticks) : State :=
  settlePresence s.lockPresent (takeFrameEvent i v (if stored then badEnd i (s.reach T) else s.reach T))

/-- Everything such an event can change. -/
theorem unstoredEnd_eq (v : Input) (stored : Bool) (T : Ticks) : s.unstoredEnd i v stored T = { s with
    now := max s.now T, inputs := put s.inputs i v, slots := (s.unstoredEnd i v stored T).slots
    rings := (s.unstoredEnd i v stored T).rings, reservations := (s.unstoredEnd i v stored T).reservations
    time := (s.unstoredEnd i v stored T).time, link := (s.unstoredEnd i v stored T).link
    events := (s.unstoredEnd i v stored T).events } := by
  unfold State.unstoredEnd
  rw [settlePresence_eq, takeFrameEvent_eq, emptied_eq]
  rfl

/-- An event that does not bring SEARCHING from another state (R14, R44). -/
theorem unstoredEnd_stays {v : Input} (h : (s.input i).state = .searching ∨ v.state ≠ .searching) (stored : Bool)
    (T : Ticks) : UnstoredEnd s (s.unstoredEnd i v stored T) i v stored := by
  obtain ⟨base, hbase⟩ : ∃ base, (if stored then badEnd i (s.reach T) else s.reach T) = base := ⟨_, rfl⟩
  have e : base = { s.reach T with slots := base.slots } := hbase ▸ emptied_eq stored i (s.reach T)
  have units : base.inputs = s.inputs := by rw [e]; rfl
  have hb : (base.input i).state = .searching ∨ v.state ≠ .searching := by rwa [State.input, units]
  unfold State.unstoredEnd
  rw [hbase, takeFrameEvent_stays hb]
  refine ⟨?_, ?_, settlePresence_follows_of _ ?_ ?_⟩
  · rw [settlePresence_eq, e]
    rfl
  · exact (hbase ▸ badEnd_emptied i stored (s.reach T)).of_slots rfl rfl (settlePresence_slots _ _)
  · rw [e]; rfl
  · rw [e]; rfl

/-- An event that brings SEARCHING from another state: once the unit and its events are taken, the ring is marked and a
pending grab ends with SOURCE LOST (R36, R54). -/
theorem unstoredEnd_searches {v : Input} (hu : (s.input i).state ≠ .searching) (hv : v.state = .searching)
    (stored : Bool) (T : Ticks) :
    ∃ m : State, s.unstoredEnd i v stored T = settlePresence s.lockPresent (failGrab i .sourceLost (markStale i m))
      ∧ m.rings = s.rings ∧ m.reservations = s.reservations ∧ m.link = s.link ∧ m.time = s.time
      ∧ m.events = (if (s.input i).state = .locked ∨ (s.input i).state = .suspect
          then s.events.raised (.inputLost i v.lockLosses) else s.events).raised (.inputState i v.state v.counted)
      ∧ ∀ n, (m.slot n).marked i = (s.slot n).marked i ∧ (n ∉ (s.ring i).slots → m.slot n = s.slot n) := by
  obtain ⟨base, hbase⟩ : ∃ base, (if stored then badEnd i (s.reach T) else s.reach T) = base := ⟨_, rfl⟩
  have e : base = { s.reach T with slots := base.slots } := hbase ▸ emptied_eq stored i (s.reach T)
  have units : base.inputs = s.inputs := by rw [e]; rfl
  have hb : (base.input i).state ≠ .searching := by rwa [State.input, units]
  unfold State.unstoredEnd
  rw [hbase, takeFrameEvent_searches hb hv]
  refine ⟨_, rfl, ?_, ?_, ?_, ?_, ?_, fun n => ?_⟩
  · rw [e]; rfl
  · rw [e]; rfl
  · rw [e]; rfl
  · rw [e]; rfl
  · rw [e]; rfl
  · have slots : base.slots = (if stored then badEnd i (s.reach T) else s.reach T).slots := by rw [hbase]
    show (look base.slots n Slot.reset).marked i = _ ∧ (_ → look base.slots n Slot.reset = _)
    rw [slots]
    exact ⟨marked_emptied stored i n (s.reach T), fun hn => emptied_slot_of_ne stored (.inl hn)⟩

/-- The slots after such an event: those of the ring are marked, and the reservation of a pending grab is FREE (R36,
R54). -/
theorem unstoredEnd_slot {v : Input} (hu : (s.input i).state ≠ .searching) (hv : v.state = .searching)
    (stored : Bool) (T : Ticks) (n : Nat) : (s.unstoredEnd i v stored T).slot n =
      if s.hasPending (·.isGrabOf i) = true ∧ s.reservation i = some n
      then (if n ∈ (s.ring i).slots then (s.slot n).marked i else s.slot n).toFree
      else if n ∈ (s.ring i).slots then (s.slot n).marked i else s.slot n := by
  obtain ⟨m, e, rings, reservations, link, -, -, slots⟩ := unstoredEnd_searches hu hv stored T
  have ring : m.ring i = s.ring i := by rw [State.ring, rings]; rfl
  have pending : (markStale i m).hasPending (·.isGrabOf i) = s.hasPending (·.isGrabOf i) := by
    show m.link.table.any _ = s.link.table.any _
    rw [link]
  have reservation : (markStale i m).reservation i = s.reservation i := by
    show look m.reservations i none = look s.reservations i none
    rw [reservations]
  have marked : (markStale i m).slot n = if n ∈ (s.ring i).slots then (s.slot n).marked i else s.slot n := by
    rw [markStale_slot_eq, ring, (slots n).1]
    split
    · rfl
    · exact (slots n).2 ‹_›
  rw [e, settlePresence_slot, failGrab_slot, pending, reservation, marked]

/-- The rings, the reservations and the link after such an event (R36, R54). -/
theorem unstoredEnd_rest {v : Input} (hu : (s.input i).state ≠ .searching) (hv : v.state = .searching)
    (stored : Bool) (T : Ticks) :
    (s.unstoredEnd i v stored T).rings = put s.rings i { s.ring i with age := [], fresh := 0 }
      ∧ (s.unstoredEnd i v stored T).reservations = (failGrab i .sourceLost s).reservations
      ∧ (s.unstoredEnd i v stored T).link = (failGrab i .sourceLost s).link := by
  obtain ⟨m, e, rings, reservations, link, -⟩ := unstoredEnd_searches hu hv stored T
  rw [e, settlePresence_rings, settlePresence_reservations, settlePresence_link, failGrab_reservations,
    failGrab_reservations, failGrab_link, failGrab_link, failGrab_eq]
  refine ⟨?_, ?_, ?_⟩
  · show put m.rings i { m.ring i with age := [], fresh := 0 } = _
    rw [State.ring, rings]
    rfl
  · show (if (m.link.table.any fun e => e.target.isGrabOf i) = true then put m.reservations i none
      else m.reservations) = _
    rw [link, reservations]
    rfl
  · rw [← link]
    rfl

/-- The slots after an event that does not bring SEARCHING from another state (R44). -/
theorem unstoredEnd_stays_slot {v : Input} (h : (s.input i).state = .searching ∨ v.state ≠ .searching) (stored : Bool)
    (T : Ticks) (n : Nat) :
    (s.unstoredEnd i v stored T).slot n = (if stored then badEnd i (s.reach T) else s.reach T).slot n := by
  have hb : ((if stored then badEnd i (s.reach T) else s.reach T).input i).state = .searching
      ∨ v.state ≠ .searching := by
    rwa [emptied_eq]
  unfold State.unstoredEnd
  rw [settlePresence_slot, takeFrameEvent_stays hb]
  rfl

/-- The unit after an event that stores no frame. -/
theorem unstoredEnd_input (hi : i < 16) (v : Input) (stored : Bool) (T : Ticks) :
    (s.unstoredEnd i v stored T).input i = v := by
  rw [unstoredEnd_eq]
  exact look_put_same _ _ _ hi

/-- A bad-frame event that leaves the unit in SEARCHING or out of it (R11, R12, R44). -/
theorem badFrameTaken_stays {u : Input} {stored : Bool} (hi : i < 16) (hu : u.state = (s.input i).state)
    (hs : stored = ((s.input i).frame.map FrameInProgress.stored).getD false)
    (h : u.state = .searching ∨ u.afterBad.state ≠ .searching) (T : Ticks) :
    BadFrameTaken s (s.unstoredEnd i u.afterBad stored T) i u := by
  have unit := unstoredEnd_input (s := s) hi u.afterBad stored T
  obtain ⟨frame, slots, events⟩ := unstoredEnd_stays (hu ▸ h) stored T
  have slot := unstoredEnd_stays_slot (hu ▸ h) stored T
  generalize s.unstoredEnd i u.afterBad stored T = t at *
  have rings : t.rings = s.rings := by rw [frame]
  have reservations : t.reservations = s.reservations := by rw [frame]
  have kept : ¬((u.state = .locked ∨ u.state = .suspect) ∧ u.afterBad.state = .searching) := by
    rintro ⟨h1 | h1, h2⟩ <;> simp [h1, h2] at h
  refine ⟨unit, fun j hj => ⟨?_, ?_, ?_⟩, ?_, fun n hn _ => ?_, fun n => ?_, fun _ => ⟨?_, ?_, ?_, hs ▸ slots⟩,
    fun h1 h2 => ?_, ?_⟩
  · rw [frame]; exact look_put_ne _ _ _ hj
  · rw [State.ring, rings]; rfl
  · rw [State.reservation, reservations]; rfl
  · rw [frame]
  · exact (slot n).trans (emptied_slot_of_ne stored (.inl hn))
  · rw [slot]
    rcases emptied_slot_cases stored i n (s.reach T) with e | ⟨-, e⟩ <;> rw [e] <;> exact ⟨rfl, rfl, rfl⟩
  · rw [frame]
  · rw [frame]
  · rw [frame]; rfl
  · exact absurd h (by simp [h1, h2])
  · rw [← hu] at events
    simpa only [kept, if_false] using events

/-- A bad-frame event that brings SEARCHING from another state (R9, R11 to R13, R16, R36, R54). -/
theorem badFrameTaken_searches {u : Input} {stored : Bool} (hi : i < 16) (hu : u.state = (s.input i).state)
    (hs0 : u.state ≠ .searching) (hv : u.afterBad.state = .searching) (T : Ticks) :
    BadFrameTaken s (s.unstoredEnd i u.afterBad stored T) i u := by
  have unit := unstoredEnd_input (s := s) hi u.afterBad stored T
  have hs1 : (s.input i).state ≠ .searching := hu ▸ hs0
  have slot := unstoredEnd_slot hs1 hv stored T
  obtain ⟨rings, reservations, link⟩ := unstoredEnd_rest hs1 hv stored T
  have frame := unstoredEnd_eq (s := s) (i := i) u.afterBad stored T
  obtain ⟨m, e, -, -, -, time, events, -⟩ := unstoredEnd_searches hs1 hv stored T
  have follows : TimeFollows s.lockPresent s.time m.events (s.unstoredEnd i u.afterBad stored T) := by
    rw [e]
    refine settlePresence_follows_of _ ?_ ?_ <;> rw [failGrab_eq]
    · exact time
    · rfl
  generalize s.unstoredEnd i u.afterBad stored T = t at *
  refine ⟨unit, fun j hj => ⟨?_, ?_, ?_⟩, ?_, fun n hn hr => ?_, fun n => ?_, fun h => absurd h (by simp [hs0, hv]),
    fun _ _ => ⟨?_, fun n hn hlt hr => ?_, fun hg => ⟨?_, ?_⟩, fun before q after ht hq hx => ⟨?_, ?_, ?_⟩⟩, ?_⟩
  · rw [frame]; exact look_put_ne _ _ _ hj
  · rw [State.ring, rings]; exact look_put_ne _ _ _ hj
  · rw [State.reservation, reservations, failGrab_reservations]
    split
    · exact look_put_ne _ _ _ hj
    · rfl
  · rw [frame]
  · rw [slot, if_neg fun h => hr h.2, if_neg hn]
  · obtain ⟨h1, h2, h3⟩ := Slot.marked_holds i (s.slot n)
    rw [slot]
    split <;> split
    · exact ⟨h1, h2, h3⟩
    · exact ⟨rfl, rfl, rfl⟩
    · exact ⟨h1, h2, h3⟩
    · exact ⟨rfl, rfl, rfl⟩
  · rw [State.ring, rings]; exact look_put_same _ _ _ hi
  · exact markedStale_of_marked hlt hn (by rw [slot, if_neg fun h => hr h.1 h.2, if_pos hn])
  · rw [link, failGrab, hg]; rfl
  · rw [reservations, failGrab, hg]; rfl
  · rw [link, failGrab_alone ht hq hx]
  · rw [State.reservation, reservations, failGrab_reservations, if_pos (hasPending_of ht hq)]
    exact look_put_same _ _ _ hi
  · intro n hn _
    rw [slot, if_pos ⟨hasPending_of ht hq, hn⟩]
    rfl
  · rw [events, ← hu] at follows
    simpa only [hs0, hv, if_false, and_true] using follows

/-- Every bad-frame event of input `i` is taken as Table 1.3 says, `u` being the unit as the event meets it. -/
theorem badFrameTaken {u : Input} {stored : Bool} (hi : i < 16) (hu : u.state = (s.input i).state) (hl : 1 ≤ u.l)
    (hs : stored = ((s.input i).frame.map FrameInProgress.stored).getD false) (T : Ticks) :
    BadFrameTaken s (s.unstoredEnd i u.bad stored T) i u := by
  rw [Input.bad_eq_afterBad hl]
  by_cases h : u.state = .searching ∨ u.afterBad.state ≠ .searching
  · exact badFrameTaken_stays hi hu hs h T
  · rw [not_or, not_not] at h
    exact badFrameTaken_searches hi hu h.1 h.2 T

/-- A slot that was being filled is EMPTY after a bad-frame event (R44, R54). -/
theorem BadFrameTaken.emptied {u : Input} (h : BadFrameTaken s t i u)
    (hs : ((s.input i).frame.map FrameInProgress.stored).getD false = true) {before after : List Nat} (hn : n < 96)
    (hr : (s.ring i).slots = before ++ n :: after) (hf : (s.slot n).state = .filling)
    (hb : ∀ m ∈ before, (s.slot m).state ≠ .filling) (hx : s.reservation i ≠ some n) :
    (t.slot n).state = .empty ∧ (t.slot n).sequence = 0 ∧ (t.slot n).format = none := by
  have slot : t.slot n = (s.slot n).toEmpty (.input i) := by
    by_cases h' : u.state = .searching ∨ u.afterBad.state ≠ .searching
    · obtain ⟨-, -, -, slots⟩ := h.kept h'
      rw [State.slot, slots.emptied hs before n after hr hf hb]
      exact look_put_same _ _ _ hn
    · rw [not_or, not_not] at h'
      obtain ⟨-, marked, -⟩ := h.lost h'.1 h'.2
      exact (marked n (hr ▸ by simp) hn fun _ => hx).filling hf
  rw [slot]
  exact ⟨rfl, rfl, rfl⟩

/-! #### The commands -/

/-- A frame end that is not a good one, as a command. -/
theorem endFrame_unstored {f : FrameInProgress} (hf : (s.input i).frame = some f) {cut : Bool} {T : Ticks}
    (h : ¬(s.input i).storesAtEnd f cut T) (p : Picture) :
    endFrame i T cut p (s.reach T) = s.unstoredEnd i ((s.input i).afterEnd f cut T) f.stored T := by
  rcases endFrame_cases (s := s.reach T) hf T cut p with ⟨good, -⟩ | ⟨-, e⟩
  · exact absurd good h
  · exact e

/-- The unit after a frame end that is judged as a bad-frame event (Table 1.3). -/
theorem Input.afterEnd_bad {u : Input} {f : FrameInProgress} {cut : Bool} {T : Ticks}
    (h : u.judged f (judge u f cut) T = u.bad) : u.afterEnd f cut T = ({ u with frame := none } : Input).bad := by
  rw [Input.bad_withoutFrame, ← h]
  rfl

/-- A frame end that is judged as a bad-frame event, as a command: it is the bad-frame event. -/
theorem exec_frameEnd_bad {i : Fin 16} {f : FrameInProgress} {flagged : Bool} {T : Ticks} (hr : s.resetLine = false)
    (ho : (s.input i.val).state ≠ .off) (hf : (s.input i.val).frame = some f)
    (hj : judge (s.input i.val) f flagged ≠ .matching)
    (hb : (s.input i.val).judged f (judge (s.input i.val) f flagged) T = (s.input i.val).bad) (p : Picture) :
    exec (.frameEnd i T flagged p) s
      = .next (s.unstoredEnd i.val ({ s.input i.val with frame := none } : Input).bad f.stored T) := by
  rw [exec_frameEnd hr ho, endFrame_unstored hf fun h => hj h.2.1, Input.afterEnd_bad hb]

/-- A frame that is damaged is a bad-frame event in every state (R5). -/
theorem exec_frameEnd_damaged {i : Fin 16} {f : FrameInProgress} {flagged : Bool} {T : Ticks} (hr : s.resetLine = false)
    (ho : (s.input i.val).state ≠ .off) (hf : (s.input i.val).frame = some f) (hd : flagged = true ∨ f.rate = none)
    (p : Picture) : exec (.frameEnd i T flagged p) s
      = .next (s.unstoredEnd i.val ({ s.input i.val with frame := none } : Input).bad f.stored T) := by
  have damaged : judge (s.input i.val) f flagged = .damaged := by
    rcases hd with rfl | hd
    · exact judge_cut _ _
    · simp [judge, hd]
  exact exec_frameEnd_bad hr ho hf (by simp [damaged]) (by rw [damaged]; rfl) p

/-- A frame of another format is a bad-frame event where the counted format has been locked on (R11 to R13). -/
theorem exec_frameEnd_other {i : Fin 16} {f : FrameInProgress} {r : RateClass} {T : Ticks} (hr : s.resetLine = false)
    (hf : (s.input i.val).frame = some f) (hrate : f.rate = some r)
    (hc : (s.input i.val).counted ≠ some ⟨f.width, f.height, r, f.progressive⟩)
    (hs : (s.input i.val).state = .locked ∨ (s.input i.val).state = .suspect ∨ (s.input i.val).state = .unsupported)
    (p : Picture) : exec (.frameEnd i T false p) s
      = .next (s.unstoredEnd i.val ({ s.input i.val with frame := none } : Input).bad f.stored T) := by
  have other : judge (s.input i.val) f false = .otherFormat := by simp [judge, hrate, hc]
  have running : (s.input i.val).state ≠ .off := by
    rcases hs with h | h | h <;> rw [h] <;> nofun
  refine exec_frameEnd_bad hr running hf (by simp [other]) ?_ p
  rw [other]
  rcases hs with h | h | h <;> simp [Input.judged, FrameInProgress.format, hrate, Input.other, h]

/-- The expiry of the missing-frame timer is a bad-frame event of a unit without a frame in progress, its timer
restarted (R6). -/
theorem exec_missingFrameTimerExpiry {i : Fin 16} {T : Ticks} (hr : s.resetLine = false)
    (ht : (s.input i.val).timer = some T) : exec (.missingFrameTimerExpiry i) s
      = .next (s.unstoredEnd i.val
          ({ s.input i.val with frame := none, timer := some (T + 50 * 135000) } : Input).bad
          (((s.input i.val).frame.map FrameInProgress.stored).getD false) T) := by
  refine (whenRunning_run hr).trans (congrArg _ ?_)
  unfold expireTimer State.unstoredEnd
  rw [ht]
  dsimp only
  congr 1
  rw [emptied_eq]
  rfl

/-- A frame end that stores no frame and is no bad-frame event, as a command: the unit becomes `v` (Table 1.3). -/
theorem exec_frameEnd_unstored {i : Fin 16} {f : FrameInProgress} {T : Ticks} {v : Input} {p : Picture}
    (hr : s.resetLine = false) (ho : (s.input i.val).state ≠ .off) (hf : (s.input i.val).frame = some f)
    (hv : (s.input i.val).afterEnd f false T = v)
    (hg : f.stored = false ∨ v.state ≠ .locked ∨ judge (s.input i.val) f false ≠ .matching)
    (hs : (s.input i.val).state = .searching ∨ v.state ≠ .searching) :
    ∃ t, exec (.frameEnd i T false p) s = .next t ∧ t.now = max s.now T ∧ UnstoredEnd s t i.val v f.stored := by
  have unstored : ¬(s.input i.val).storesAtEnd f false T := by
    rintro ⟨h1, h2, h3⟩
    rw [hv] at h3
    rcases hg with h | h | h
    · simp [h] at h1
    · exact h h3
    · exact h h2
  refine ⟨_, exec_frameEnd hr ho T false p, ?_, ?_⟩ <;> rw [endFrame_unstored hf unstored, hv]
  · rw [unstoredEnd_eq]
  · exact unstoredEnd_stays hs f.stored T

/-- Settles O57: the bad-frame events by `badFrameTaken`, the other frame ends by the unit of Table 1.3. -/
theorem badFramesFollowTheTable : Obligations.BadFramesFollowTheTable := by
  intro i s hr u emptied
  refine ⟨fun T h => ?_, fun T f ho hf hl => ?_, fun T ht hl => ?_, fun T f flagged p hf hd => ?_,
    fun T f r p ho hf hrate => ?_⟩
  · have nothing : ∀ flagged delivered, exec (.frameEnd i T flagged delivered) s = .next (s.reach T) := by
      intro flagged delivered
      by_cases ho : u.state = .off
      · exact exec_frameEnd_off hr ho T flagged delivered
      · rw [exec_frameEnd hr ho, endFrame_none (s := s.reach T) (h.resolve_left ho)]
    exact ⟨nothing true [], nothing⟩
  · have taken := badFrameTaken (s := s) (u := { u with frame := none }) (stored := f.stored) i.isLt rfl hl
      (by rw [hf]; rfl) T
    refine ⟨_, (exec_lossOfSignal i T s).trans (exec_frameEnd_damaged hr ho hf (.inl rfl) []), ?_, taken, ?_⟩
    · rw [unstoredEnd_eq]
    · intro hs before n after hn
      exact taken.emptied (by rw [hf]; exact hs) hn
  · have taken := badFrameTaken (s := s) (u := { u with frame := none, timer := some (T + 50 * 135000) }) i.isLt rfl hl
      rfl T
    refine ⟨_, exec_missingFrameTimerExpiry hr ht, ?_, taken, ?_⟩
    · rw [unstoredEnd_eq]
    · intro f hf hs before n after hn
      exact taken.emptied (by rw [hf]; exact hs) hn
  · rw [exec_lossOfSignal]
    by_cases ho : u.state = .off
    · rw [exec_frameEnd_off hr ho, exec_frameEnd_off hr ho]
    · rw [exec_frameEnd_damaged hr ho hf hd, exec_frameEnd_damaged hr ho hf (.inl rfl)]
  · have ended {v : Input} (hv : u.afterEnd f false T = v)
        (hg : f.stored = false ∨ v.state ≠ .locked ∨ judge u f false ≠ .matching)
        (hs : u.state = .searching ∨ v.state ≠ .searching) :
        ∃ t, exec (.frameEnd i T false p) s = .next t ∧ t.now = max s.now T ∧ UnstoredEnd s t i.val v f.stored :=
      exec_frameEnd_unstored hr ho hf hv hg hs
    refine ⟨fun hc => ?_, fun hc => ?_⟩
    · have other : judge u f false = .otherFormat := by simp [judge, hrate, hc]
      refine ⟨fun hs => ?_, fun hs => ended ?_ (.inr (.inr (by simp [other]))) (.inl hs),
        fun hs => ended ?_ (.inr (.inr (by simp [other]))) (.inr (by simp [hs]))⟩
      · rw [exec_frameEnd_other hr hf hrate hc hs, exec_lossOfSignal, exec_frameEnd_damaged hr ho hf (.inl rfl)]
      · rw [Input.afterEnd, other]
        simp [Input.judged, FrameInProgress.format, hrate, Input.other, Input.candidate, hs, Config.missingFrame]
      · rw [Input.afterEnd, other]
        simp [Input.judged, FrameInProgress.format, hrate, Input.other, Input.candidate, hs, Input.countBad]
    · have matching : judge u f false = .matching := by simp [judge, hrate, hc]
      have after : u.afterEnd f false T = { u.matched with frame := none } := by rw [Input.afterEnd, matching]; rfl
      refine ⟨fun hs hk => ended ?_ (.inr (.inl ?_)) (.inr ?_), fun hs hk hg => ended ?_ (.inr (.inl nofun)) (.inr nofun),
        fun hs hk hg hn => ended ?_ (.inl hn) (.inr nofun), fun hs hn => ended ?_ (.inl hn) (.inr nofun),
        fun hs hn => ended ?_ (.inl hn) (.inr ?_), fun hs => ended ?_ (.inr (.inl ?_)) (.inr ?_)⟩
      · simp [after, Input.matched, hs, show ¬u.k ≤ u.count + 1 by omega]
      · simp [hs]
      · simp [hs]
      · simp [after, Input.matched, hs, hk, hc, hg]
      · simp [after, Input.matched, hs, hk, hc, hg]
      · simp [after, Input.matched, hs]
      · simp [after, Input.matched, hs]
      · simp [hs]
      · simp [after, Input.matched, hs]
      · simp [hs]
      · simp [hs]

end Sys2Proof.Machine
end

section
/-! ### The completion of a grab (R35) -/

namespace Sys2Proof.Machine

variable {s t : State} {i n e r : Nat}

/-! #### The ring and the entry -/

/-- A slot that enters the age list and leaves it again leaves the ring as it was (R41). -/
theorem Ring.leave_enter {x : Ring} (h : n ∉ x.age) : (x.enter n).leave n = x := by
  have kept : x.age.filter (· != n) = x.age :=
    List.filter_eq_self.2 fun m hm => by simpa using fun e : m = n => h (e ▸ hm)
  simp [Ring.enter, Ring.leave, kept]

/-- One position of a ring that holds a slot once takes another (R35). -/
theorem map_replace {before after : List Nat} (h : (before ++ n :: after).Nodup) :
    ((before ++ n :: after).map fun x => if x = n then r else x) = before ++ r :: after := by
  have same : ∀ l : List Nat, n ∉ l → (l.map fun x => if x = n then r else x) = l := by
    intro l hl
    refine (List.map_congr_left fun x hx => if_neg ?_).trans l.map_id
    rintro rfl
    exact hl hx
  obtain ⟨hb, ha⟩ : n ∉ before ∧ n ∉ after := by
    rw [List.nodup_middle, List.nodup_cons, List.mem_append, not_or] at h
    exact h.1
  simp [same before hb, same after ha]

/-- A slot that a still entry releases retires; every other slot is as it was (R30). -/
theorem retireStill_slot_same (h : s.still e = some n) (hn : n < 96) :
    (retireStill e s).slot n = (s.slot n).toRetiring := by
  unfold retireStill
  rw [h]
  exact State.setSlot_slot_same _ _ _ hn

theorem retireStill_slot_ne (h : s.still e ≠ some n) : (retireStill e s).slot n = s.slot n := by
  unfold retireStill
  split
  · rfl
  · rename_i m hm
    exact State.setSlot_slot_ne _ _ _ _ (by rintro rfl; exact h hm)

theorem retireStill_eq (e : Nat) (s : State) : retireStill e s = { s with slots := (retireStill e s).slots } := by
  unfold retireStill
  split <;> rfl

/-- The entry of a pending grab of input `i`. -/
theorem grabEntry_of {before after : List PendingRequest} {q : PendingRequest} {left : Nat}
    (ht : s.link.table = before ++ q :: after) (hq : q.target = .grab i e left)
    (hx : ∀ x ∈ before ++ after, x.target.isGrabOf i = false) : s.grabEntry i = some e := by
  unfold State.grabEntry
  rw [ht, List.findSome?_append]
  have none : before.findSome? (fun x => match x.target with
      | .grab j d _ => if j = i then some d else none
      | .take .. | .assign .. | .reset .. => none) = none := by
    rw [List.findSome?_eq_none_iff]
    intro x hm
    have := hx x (List.mem_append_left _ hm)
    cases h : x.target <;> simp_all [PendingTarget.isGrabOf]
  refine (congrArg (Option.or · _) none).trans ?_
  simp [hq]

/-! #### The part -/

/-- The part after a grab has given the slot to the entry and the reservation to the ring, before the entry's former slot
retires and the grab is answered (R35). -/
def State.grabMoved (s : State) (i e n r : Nat) : State := { s with
  rings := put s.rings i { (s.ring i).leave n with slots := (s.ring i).slots.map fun x => if x = n then r else x }
  slots := put (put s.slots n { s.slot n with state := .still, owner := .still e }) r
    (((s.setSlot n { s.slot n with state := .still, owner := .still e }).slot r).toEmpty (.input i))
  reservations := put s.reservations i none }

theorem completeGrab_grabMoved (i e n r : Nat) (s : State) : completeGrab i e n r s
    = endWhere (·.isGrabOf i) .done ((retireStill e (s.grabMoved i e n r)).setStill e (some n)) := rfl

/-- Everything the completion of a grab touches (R35). -/
theorem completeGrab_eq (i e n r : Nat) (s : State) : completeGrab i e n r s = { s with
    slots := (retireStill e (s.grabMoved i e n r)).slots
    rings := (s.grabMoved i e n r).rings
    reservations := (s.grabMoved i e n r).reservations
    stills := put s.stills e (some n)
    link := (endWhere (·.isGrabOf i) .done s).link } := by
  rw [completeGrab_grabMoved, retireStill_eq]
  rfl

/-- The grabbed slot is a STILL slot of the entry, and the reservation is an EMPTY slot of the ring (R35). -/
theorem grabMoved_slot (hn : n < 96) (hr : r < 96) (hnr : r ≠ n) (m : Nat) : (s.grabMoved i e n r).slot m =
    if m = n then { s.slot n with state := .still, owner := .still e }
    else if m = r then (s.slot r).toEmpty (.input i) else s.slot m := by
  have former : (s.setSlot n { s.slot n with state := .still, owner := .still e }).slot r = s.slot r :=
    State.setSlot_slot_ne _ _ _ _ hnr
  show look (put _ r _) m _ = _
  split
  · subst m
    rw [look_put_ne _ _ _ hnr.symm]
    exact look_put_same _ _ _ hn
  · split
    · subst m
      rw [former]
      exact look_put_same _ _ _ hr
    · exact (look_put_ne _ _ _ ‹_›).trans (look_put_ne _ _ _ ‹_›)

/-- The slots after the completion of a grab, but for the entry's former slot (R35). -/
theorem completeGrab_slot {m : Nat} (hn : n < 96) (hr : r < 96) (hnr : r ≠ n) (hm : s.still e ≠ some m) :
    (completeGrab i e n r s).slot m =
      if m = n then { s.slot n with state := .still, owner := .still e }
      else if m = r then (s.slot r).toEmpty (.input i) else s.slot m := by
  rw [completeGrab_eq, ← grabMoved_slot hn hr hnr]
  exact retireStill_slot_ne (s := s.grabMoved i e n r) hm

/-- The entry's former slot retires (R30, R35). -/
theorem completeGrab_slot_former {m : Nat} (hn : n < 96) (hr : r < 96) (hnr : r ≠ n) (hm : s.still e = some m)
    (h : m < 96) (hmn : m ≠ n) (hmr : m ≠ r) : (completeGrab i e n r s).slot m = (s.slot m).toRetiring := by
  have moved : (s.grabMoved i e n r).slot m = s.slot m := by
    rw [grabMoved_slot hn hr hnr, if_neg hmn, if_neg hmr]
  rw [completeGrab_eq, ← moved]
  exact retireStill_slot_same (s := s.grabMoved i e n r) hm h

/-- A stored frame's slot after a good end, with a pending grab of input `i` (R35, R43). -/
theorem goodEnd_grab (hn : s.fillingSlot i = some n) (he : s.grabEntry i = some e) (hr : s.reservation i = some r)
    (q : Nat) (g : Format) (p : Picture) : goodEnd i q g p s = completeGrab i e n r { s with
      slots := put s.slots n { s.slot n with
        state := .complete, owner := .input i, sequence := q, format := some g
        picture := writeFrame g.width g.height p }
      rings := put s.rings i ((s.ring i).enter n) } := by
  unfold goodEnd
  simp only [hn]
  split
  · rename_i e' r' he' hr'
    obtain rfl : e' = e := Option.some.inj (he'.symm.trans he)
    obtain rfl : r' = r := Option.some.inj (hr'.symm.trans hr)
    rfl
  · rename_i h
    exact absurd hr (h _ _ he)

/-- STILL_GRAB_COMPLETE of a pending grab is the good end itself (log entry 2). -/
theorem exec_stillGrabComplete {i : Fin 16} {f : FrameInProgress} {T : Ticks} (hr : s.resetLine = false)
    (hg : s.hasPending (·.isGrabOf i.val) = true) (hf : (s.input i.val).frame = some f)
    (h : (s.input i.val).storesAtEnd f false T) (p : Picture) :
    exec (.stillGrabComplete i T p) s = exec (.frameEnd i T false p) s := by
  obtain ⟨stored, matching, locked⟩ := h
  have good : (s.input i.val).endsGood T = true := by
    unfold Input.endsGood
    rw [hf]
    simp only [stored, matching, Bool.true_and, beq_self_eq_true]
    rw [← matching]
    exact beq_iff_eq.2 locked
  refine (whenRunning_run hr).trans (Eq.trans ?_ (whenRunning_run hr).symm)
  rw [hg, good]
  rfl

/-- Settles O56: the good end, and the parts of the completion one by one. -/
theorem grabCompletesAtAGoodEnd : Obligations.GrabCompletesAtAGoodEnd := by
  intro i T delivered f r ringBefore ringAfter n e reserved left before after q s hrun u g hf hs hrate hc hu h0 hring hn
    hb hnodup hage ht hq hx hres hn96 hr96 hnr he hstill hstill'
  have running : u.state ≠ .off := by
    rcases hu with h | h | ⟨h, -⟩ <;> rw [h] <;> nofun
  have grab : q.target.isGrabOf i.val = true := by simp [hq, PendingTarget.isGrabOf]
  have pending : s.hasPending (·.isGrabOf i.val) = true := hasPending_of (f := (·.isGrabOf i.val)) ht grab
  have filling : ((s.reach T).unitCompleted i.val g).fillingSlot i.val = some n := fillingSlot_first hring hn hb
  have entry : ((s.reach T).unitCompleted i.val g).grabEntry i.val = some e := grabEntry_of ht hq hx
  obtain ⟨w, hw⟩ : ∃ w : State, w = { (s.reach T).unitCompleted i.val g with
      slots := put s.slots n { s.slot n with
        state := .complete, owner := .input i.val, sequence := (u.sequence + 1) % 65536, format := some g
        picture := writeFrame f.width f.height delivered }
      rings := put s.rings i.val ((s.ring i.val).enter n) } := ⟨_, rfl⟩
  have ends : exec (.frameEnd i T false delivered) s
      = .next (settlePresence s.lockPresent (completeGrab i.val e n reserved w)) := by
    rw [hw]
    exact (exec_frameEnd hrun running T false delivered).trans
      (congrArg _ ((endFrame_good (s := s.reach T) hf hs hrate hc hu h0 T delivered).trans
        (congrArg _ (goodEnd_grab filling entry hres _ g delivered))))
  have event : exec (.stillGrabComplete i T delivered) s = exec (.frameEnd i T false delivered) s :=
    exec_stillGrabComplete hrun pending hf (storesAtEnd_of_matching hs hrate hc hu h0 T).1 delivered
  have grabbed : w.slot n = { s.slot n with
      state := .complete, owner := .input i.val, sequence := (u.sequence + 1) % 65536, format := some g
      picture := writeFrame f.width f.height delivered } := hw ▸ look_put_same _ _ _ hn96
  have slots : ∀ m, m ≠ n → w.slot m = s.slot m := fun m hm => hw ▸ look_put_ne _ _ _ hm
  have ring : (completeGrab i.val e n reserved w).rings
      = put s.rings i.val { s.ring i.val with slots := ringBefore ++ reserved :: ringAfter } := by
    have entered : w.ring i.val = (s.ring i.val).enter n := hw ▸ look_put_same _ _ _ i.isLt
    rw [completeGrab_eq]
    show put w.rings i.val { (w.ring i.val).leave n with
      slots := (w.ring i.val).slots.map fun x => if x = n then reserved else x } = _
    rw [entered, Ring.leave_enter hage]
    show put w.rings i.val { s.ring i.val with slots := (s.ring i.val).slots.map _ } = _
    rw [hring, map_replace (hring ▸ hnodup), hw]
    exact put_put _ _ _ _
  have frame := completeGrab_eq i.val e n reserved w
  have stills : w.still e = s.still e := hw ▸ rfl
  have link : (completeGrab i.val e n reserved w).link = (s.ended before after q .done).link := by
    rw [frame]
    refine (endWhere_alone (s := w) (f := (·.isGrabOf i.val)) (hw ▸ ht) grab hx).trans ?_
    rw [hw]
    rfl
  refine ⟨_, event.trans ends, ends, ?_, ?_, ?_, ?_, ?_, fun m hm hs => ?_, fun m h1 h2 h3 => ?_, fun d hd => ?_,
    ?_, ?_, fun j hj => ⟨?_, ?_⟩, ?_⟩
  · rw [State.still, settlePresence_eq, frame]
    exact look_put_same _ _ _ he
  · rw [settlePresence_slot, completeGrab_slot hn96 hr96 hnr (stills ▸ hstill), if_pos rfl, grabbed]
  · rw [settlePresence_slot, completeGrab_slot hn96 hr96 hnr (stills ▸ hstill'), if_neg hnr, if_pos rfl, slots _ hnr]
    rfl
  · rw [settlePresence_ring, State.ring, ring]
    exact look_put_same _ _ _ i.isLt
  · rw [settlePresence_reservation, frame]
    exact look_put_same _ _ _ i.isLt
  · have hmn : m ≠ n := by rintro rfl; exact hstill hs
    have hmr : m ≠ reserved := by rintro rfl; exact hstill' hs
    rw [settlePresence_slot, completeGrab_slot_former hn96 hr96 hnr (stills ▸ hs) hm hmn hmr, slots _ hmn]
    rfl
  · rw [settlePresence_slot, completeGrab_slot hn96 hr96 hnr (stills ▸ h3), if_neg h1, if_neg h2, slots _ h1]
  · rw [State.still, settlePresence_eq, frame]
    refine (look_put_ne _ _ _ hd).trans ?_
    rw [hw]
    rfl
  · rw [settlePresence_link, link]
  · rw [settlePresence_eq, frame, hw]
    rfl
  · rw [settlePresence_ring, State.ring, ring]
    exact look_put_ne _ _ _ hj
  · rw [settlePresence_reservation, frame, hw]
    exact look_put_ne _ _ _ hj
  · refine settlePresence_follows_of _ ?_ ?_ <;> rw [frame, hw] <;> rfl

end Sys2Proof.Machine
end

section
/-! ### The start of a frame (R2, R3, R15, R42, R64) -/

namespace Sys2Proof.Machine

variable {s t : State} {i n : Nat} {u : Input}

/-! #### The unit -/

/-- A frame is to be stored in LOCKED, in SUSPECT, and where it may be the one that locks a supported format (R15). -/
theorem Input.stores_iff (u : Input) : u.stores = true ↔ u.state = .locked ∨ u.state = .suspect
    ∨ (u.state = .qualifying ∧ u.k ≤ u.count + 1 ∧ ∃ g, u.counted = some g ∧ g.supported = true) := by
  cases hc : u.counted <;> simp [Input.stores, or_assoc, and_assoc, hc]

/-- The interval of a frame start gives the class of the counted format, or another one (R3). -/
theorem Input.startClass_same {g : Format} {x : Ticks} (hc : u.counted = some g) (hx : rateClass x = some g.rate) :
    u.startClass x = some g.rate := by
  simp [Input.startClass, hc, hx]

theorem Input.startClass_other {x : Ticks} (h : ∀ g, u.counted = some g → rateClass x ≠ some g.rate) :
    u.startClass x = none := by
  cases hc : u.counted with
  | none => simp [Input.startClass, hc]
  | some g => simp [Input.startClass, hc, h g hc]

/-- The unit after a frame start (R2, R3, R6, R64). -/
def Input.started (u : Input) (T : Ticks) (w h : Nat) (prog stored : Bool) : Input :=
  { u with
    lastStart := some T
    timer := u.timer.map fun _ => T + Config.missingFrame
    frame := some ⟨w, h, u.lastStart.bind fun last => rateClass (T - last), prog, stored⟩
    midway := u.midwayAfter (u.lastStart.map fun last => T - last) T }

/-- What a frame start of each class brings: its midway instant, and in LOCKED the period that it measures (R64). -/
theorem Input.midwayOf_eq (u : Input) (x start : Ticks) : u.midwayOf x start =
    if u.startClass x = some .r25 ∨ u.startClass x = some .r30 then some (start + x / 2, x / 2) else none := by
  unfold Input.midwayOf
  split <;> simp [*]

theorem Input.lockPeriod_eq (hs : u.state = .locked) (x : Ticks) : u.lockPeriod x =
    if u.startClass x = some .r25 ∨ u.startClass x = some .r30 then some (x / 2)
    else if u.startClass x = some .r50 ∨ u.startClass x = some .r60 then some x else none := by
  unfold Input.lockPeriod
  rw [if_pos hs]
  split <;> simp [*]

theorem Input.lockPeriod_unlocked (hs : u.state ≠ .locked) (x : Ticks) : u.lockPeriod x = none := if_neg hs

/-- The period that a frame start at `T` measures (R64). -/
def Input.startPeriodAt (u : Input) (T : Ticks) : Option Ticks :=
  (u.lastStart.map fun last => T - last).bind u.lockPeriod

theorem Input.startPeriodAt_some {last : Ticks} (h : u.lastStart = some last) (T : Ticks) :
    u.startPeriodAt T = u.lockPeriod (T - last) := by
  simp [Input.startPeriodAt, h]

theorem Input.startPeriodAt_unlocked (hs : u.state ≠ .locked) (T : Ticks) : u.startPeriodAt T = none :=
  Option.bind_eq_none_iff.2 fun x _ => Input.lockPeriod_unlocked hs x

/-- The midway instant after a frame start: its own, or one still to come (R64). -/
theorem Input.midwayAfter_own {x start : Ticks} {m : Ticks × Ticks} (h : u.midwayOf x start = some m) :
    u.midwayAfter (some x) start = some m := by
  unfold Input.midwayAfter
  rw [Option.bind_some, h]

theorem Input.midwayAfter_kept {interval : Option Ticks} {start : Ticks}
    (h : ∀ x, interval = some x → u.midwayOf x start = none) :
    u.midwayAfter interval start = u.midway.filter fun m => start ≤ m.1 := by
  have none : (interval.bind fun x => u.midwayOf x start) = none := Option.bind_eq_none_iff.2 h
  unfold Input.midwayAfter
  rw [none]

/-! #### The part -/

/-- The slot that a frame start of input `i` begins to write (R15, R42). -/
def State.startSlot (s : State) (i : Nat) : Option Nat := if (s.input i).stores then s.writeSlot i else none

/-- A unit that keeps its state and its counted format keeps the lock source present or absent (R63, R64). -/
theorem lockPresent_setInput {v : Input} (hs : v.state = (s.input i).state) (hc : v.counted = (s.input i).counted) :
    (s.setInput i v).lockPresent = s.lockPresent := by
  have present : ∀ j, (s.setInput i v).inputPresent j = s.inputPresent j := by
    intro j
    have unit : ((s.setInput i v).input j).state = (s.input j).state
        ∧ ((s.setInput i v).input j).counted = (s.input j).counted := by
      rcases look_put_cases s.inputs v (Input.reset) i j with ⟨rfl, e⟩ | e
      · exact ⟨(congrArg Input.state e).trans hs, (congrArg Input.counted e).trans hc⟩
      · exact ⟨congrArg Input.state e, congrArg Input.counted e⟩
    unfold State.inputPresent
    rw [unit.1, unit.2]
    rfl
  unfold State.lockPresent
  rw [show (s.setInput i v).time = s.time from rfl]
  cases s.time.source with
  | free | reference => rfl
  | input n => exact present n

/-- The part after the unit and the frame store have taken a frame start (R15, R42). -/
def State.frameBegun (s : State) (i : Nat) (T : Ticks) (w h : Nat) (prog : Bool) : State := { s with
  inputs := put s.inputs i ((s.input i).started T w h prog (s.startSlot i).isSome)
  slots := match s.startSlot i with
    | some n => put s.slots n ((s.slot n).toFilling i)
    | none => s.slots
  rings := match s.startSlot i with
    | some n => put s.rings i ((s.ring i).leave n)
    | none => s.rings }

/-- The time base after a frame start: the lock point that its source takes (R64, R66). -/
def State.timeAtStart (s : State) (i : Nat) (T : Ticks) : TimeBase :=
  match (s.input i).startPeriodAt T with
  | some period =>
    if s.time.source = .input i ∧ s.lockPresent = true ∧ s.time.timing = .tracking then s.time.meet s.now period
    else s.time
  | none => s.time

/-- A frame start with no frame in progress: the unit, the write slot and the lock point (R15, R42, R64). -/
theorem startFrame_eq (i : Nat) (T : Ticks) (w h : Nat) (prog : Bool) (s : State) :
    startFrame i T w h prog s = { s.frameBegun i T w h prog with time := s.timeAtStart i T } := by
  have begun : (match s.startSlot i with
      | some n => beginWrite i n
        (s.setInput i ((s.input i).started T w h prog (s.startSlot i).isSome))
      | none => s.setInput i ((s.input i).started T w h prog (s.startSlot i).isSome)) = s.frameBegun i T w h prog := by
    unfold State.frameBegun
    cases s.startSlot i <;> rfl
  have present : (s.frameBegun i T w h prog).lockPresent = s.lockPresent :=
    lockPresent_setInput (v := (s.input i).started T w h prog (s.startSlot i).isSome) rfl rfl
  have interval : ((s.input i).lastStart.map fun last => T - last).bind rateClass
      = (s.input i).lastStart.bind fun last => rateClass (T - last) := by
    cases (s.input i).lastStart <;> rfl
  have unfolded : startFrame i T w h prog s = match (s.input i).startPeriodAt T with
      | some period => if s.time.source = .input i then lockPoint period (s.frameBegun i T w h prog)
        else s.frameBegun i T w h prog
      | none => s.frameBegun i T w h prog := by
    rw [← begun]
    simp only [startFrame, Input.started, ← interval, Input.startPeriodAt, State.startSlot]
    generalize (if (s.input i).stores = true then s.writeSlot i else none) = slot
    generalize ((s.input i).lastStart.map fun last => T - last).bind (s.input i).lockPeriod = period
    cases slot <;> cases period <;> rfl
  rw [unfolded, State.timeAtStart]
  cases (s.input i).startPeriodAt T with
  | none => rfl
  | some period =>
    by_cases h : s.time.source = .input i
    · simp only [h, if_true, true_and, lockPoint_eq, present]
      rfl
    · simp only [h, if_false, false_and]
      rfl

/-- Without a period, or where the time base does not track this input, a frame start leaves it (R64, R66). -/
theorem timeAtStart_kept {T : Ticks} (h : (s.input i).startPeriodAt T = none
      ∨ ¬(s.time.source = .input i ∧ s.lockPresent = true ∧ s.time.timing = .tracking)) : s.timeAtStart i T = s.time := by
  unfold State.timeAtStart
  rcases h with h | h
  · rw [h]
  · simp only [if_neg h]
    split <;> rfl

/-- A lock point of the input that the time base tracks is taken (R64, R66). -/
theorem timeAtStart_taken {T period : Ticks} (h : (s.input i).startPeriodAt T = some period)
    (hf : s.time.source = .input i ∧ s.lockPresent = true ∧ s.time.timing = .tracking) :
    LockPointTaken s.time (s.timeAtStart i T) s.now period := by
  unfold State.timeAtStart
  rw [h]
  simp only [if_pos hf]
  exact meet_taken _ _ _

/-- A frame start of a unit that is not OFF, as a command: a frame in progress ends early first (R2). -/
theorem exec_frameStart {i : Fin 16} (hr : s.resetLine = false) (ho : (s.input i.val).state ≠ .off) (T : Ticks)
    (w h : Nat) (prog : Bool) : exec (.frameStart i T w h prog) s
      = .next (startFrame i.val T w h prog (endFrame i.val T true [] (s.reach T))) := by
  refine (whenRunning_run hr).trans ?_
  rw [frameStart, if_neg (show ¬((s.reach T).input i.val).state = .off from ho)]

/-- A unit in OFF takes no notice of a frame start (R7). -/
theorem exec_frameStart_off {i : Fin 16} (hr : s.resetLine = false) (ho : (s.input i.val).state = .off) (T : Ticks)
    (w h : Nat) (prog : Bool) : exec (.frameStart i T w h prog) s = .next (s.reach T) := by
  refine (whenRunning_run hr).trans ?_
  rw [frameStart, if_pos (show ((s.reach T).input i.val).state = .off from ho)]

/-- To reach an instant twice is to reach it once. -/
theorem reach_of_le {T : Ticks} (h : T ≤ s.now) : s.reach T = s := by
  rw [State.reach, show max s.now T = s.now from max_eq_left h]

/-- The end of a frame leaves the instant and the RESET line. -/
theorem endFrame_kept (i : Nat) (T : Ticks) (p : Picture) (s : State) :
    (endFrame i T true p s).now = s.now ∧ (endFrame i T true p s).resetLine = s.resetLine := by
  cases hf : (s.input i).frame with
  | none => rw [endFrame_none hf]; exact ⟨rfl, rfl⟩
  | some f =>
    rcases endFrame_cases hf T true p with ⟨⟨-, h, -⟩, -⟩ | ⟨-, e⟩
    · rw [judge_cut] at h
      cases h
    · rw [e, settlePresence_eq, takeFrameEvent_eq, emptied_eq]
      exact ⟨rfl, rfl⟩

/-- A frame start with a frame in progress is a loss of signal and then a frame start (R2). -/
theorem exec_frameStart_after_loss {i : Fin 16} (hr : s.resetLine = false) {T : Ticks}
    (h : exec (.lossOfSignal i T) s = .next t) (w l : Nat) (prog : Bool) :
    exec (.frameStart i T w l prog) s = exec (.frameStart i T w l prog) t := by
  rw [exec_lossOfSignal] at h
  by_cases ho : (s.input i.val).state = .off
  · rw [exec_frameEnd_off hr ho] at h
    cases h
    rw [exec_frameStart_off hr ho, exec_frameStart_off (s := s.reach T) hr ho,
      reach_of_le (s := s.reach T) (le_max_right _ _)]
  · rw [exec_frameEnd hr ho] at h
    cases h
    obtain ⟨hnow, hreset⟩ := endFrame_kept i.val T [] (s.reach T)
    obtain ⟨hoff, hframe⟩ := endFrame_input i.isLt T true [] (s.reach T)
    have le : T ≤ (endFrame i.val T true [] (s.reach T)).now := hnow ▸ le_max_right _ _
    rw [exec_frameStart hr ho, exec_frameStart (hreset.trans hr) (fun h => ho (hoff.1 h)), reach_of_le le,
      endFrame_none hframe]

/-- Settles O54: a frame start in OFF, with a frame in progress, and without one. -/
theorem frameStartBeginsAFrame : Obligations.FrameStartBeginsAFrame := by
  intro i T w h prog s hr
  refine ⟨fun ho => exec_frameStart_off hr ho T w h prog, fun t _ ht => exec_frameStart_after_loss hr ht w h prog,
    fun ho hf => ?_⟩
  intro u stores
  have ends := exec_frameStart hr ho T w h prog
  rw [endFrame_none (s := s.reach T) hf, startFrame_eq] at ends
  obtain ⟨t, ht⟩ : ∃ t, t = { (s.reach T).frameBegun i.val T w h prog with time := (s.reach T).timeAtStart i.val T } :=
    ⟨_, rfl⟩
  rw [← ht] at ends
  have unit : t.input i.val = u.started T w h prog (s.startSlot i.val).isSome := ht ▸ look_put_same _ _ _ i.isLt
  have midway : (t.input i.val).midway = u.midwayAfter (u.lastStart.map fun last => T - last) T := by rw [unit]; rfl
  have decided : u.stores = true ↔ stores := u.stores_iff
  refine ⟨t, (s.startSlot i.val).isSome, ends, ?_, fun h => ?_, fun n h hn => ?_, ?_⟩
  · rw [midway, ht]
    rfl
  · have noSlot : s.startSlot i.val = none := by
      unfold State.startSlot
      rw [← decided] at h
      rcases h with h | h
      · exact if_neg h
      · simp [h]
    have noSlot' : (s.reach T).startSlot i.val = none := noSlot
    rw [ht, State.frameBegun]
    simp only [noSlot, noSlot']
    exact ⟨rfl, rfl, rfl⟩
  · have slot : s.startSlot i.val = some n := (if_pos (decided.2 h)).trans hn
    have slot' : (s.reach T).startSlot i.val = some n := slot
    have ring : t.rings = put s.rings i.val ((s.ring i.val).leave n) := by
      rw [ht, State.frameBegun]
      simp only [slot']
      rfl
    refine ⟨by rw [slot]; rfl, ?_, ring, ?_⟩
    · rw [ht, State.frameBegun]
      simp only [slot']
      rfl
    · rw [State.ring, ring, look_put_same _ _ _ i.isLt]
      simp [Ring.leave]
  · intro kept follows
    have time : t.time = (s.reach T).timeAtStart i.val T := by rw [ht]
    have own (h : u.startPeriodAt T = none ∨ ¬follows) : t.time = s.time := by
      refine time.trans (timeAtStart_kept (s := s.reach T) ?_)
      by_cases hs : u.state = .locked
      · exact h.imp id fun h hf => h ⟨hf.1, hf.2.1, hf.2.2, hs⟩
      · exact .inl (u.startPeriodAt_unlocked hs T)
    have taken {period : Ticks} (h : u.startPeriodAt T = some period) (hf : follows) :
        LockPointTaken s.time t.time (max s.now T) period :=
      time ▸ timeAtStart_taken (s := s.reach T) h ⟨hf.1, hf.2.1, hf.2.2.1⟩
    refine ⟨fun g last hc hl hx => ?_, fun h => own (.inr h), fun h => ?_⟩
    · have cls : u.startClass (T - last) = some g.rate := Input.startClass_same hc hx
      have period (hs : u.state = .locked) : u.startPeriodAt T = _ :=
        (Input.startPeriodAt_some hl T).trans (Input.lockPeriod_eq hs (T - last))
      rw [midway, hl, Option.map_some]
      refine ⟨fun hg => ⟨Input.midwayAfter_kept ?_, fun hf => taken ?_ hf⟩,
        fun hg => ⟨Input.midwayAfter_own ?_, fun hf => taken ?_ hf⟩, fun hg => ⟨Input.midwayAfter_kept ?_, own ?_⟩⟩
      · rintro x ⟨⟩
        rw [Input.midwayOf_eq, cls]
        rcases hg with hg | hg <;> simp [hg]
      · rw [period hf.2.2.2, cls]
        rcases hg with hg | hg <;> simp [hg]
      · rw [Input.midwayOf_eq, cls]
        rcases hg with hg | hg <;> simp [hg]
      · rw [period hf.2.2.2, cls]
        rcases hg with hg | hg <;> simp [hg]
      · rintro x ⟨⟩
        rw [Input.midwayOf_eq, cls]
        simp [hg]
      · by_cases hs : u.state = .locked
        · rw [period hs, cls]
          simp [hg]
        · exact .inl (u.startPeriodAt_unlocked hs T)
    · have other : ∀ x, (u.lastStart.map fun last => T - last) = some x → u.startClass x = none := by
        intro x hx
        obtain ⟨last, hl, rfl⟩ := Option.map_eq_some_iff.1 hx
        exact Input.startClass_other fun g hc => h last hl g hc
      refine ⟨midway.trans (Input.midwayAfter_kept fun x hx => ?_), own (.inl (Option.bind_eq_none_iff.2 fun x hx => ?_))⟩
      · simp [Input.midwayOf_eq, other x hx]
      · by_cases hs : u.state = .locked
        · simp [Input.lockPeriod_eq hs, other x hx]
        · exact Input.lockPeriod_unlocked hs x

end Sys2Proof.Machine
end

section
/-! ### Input Setup (R18, R19) -/

namespace Sys2Proof.Machine

variable {s t : State} {i n w : Nat} {tag : Byte} {p : InputSetupFields}

/-- A request in range whose checks hold is applied and answered DONE (R18, R19). -/
theorem inputSetup_accepted (h : s.Ready) (hc : checkInputSetup p s = none) :
    exec (.inputSetup tag p) s = .next (answer tag 0x10 .done (applyInputSetup p (reservePlace s))) := by
  refine (request_ready h _ _).trans ?_
  have hc' : checkInputSetup p (reservePlace s) = none := hc
  simp only [requestInputSetup, hc']

/-- The checks of Input Setup that hold: for an input that stays OFF or is disabled, for one that stays enabled, and for
one that is enabled (R18). -/
theorem checkInputSetup_disabled (hp : inputSetupOk p = true) (hr : s.hasPending (·.isResetOf p.input) = false)
    (he : p.enable = 0) : checkInputSetup p s = none := by
  simp [checkInputSetup, hp, hr, he]

theorem checkInputSetup_enabled (hp : inputSetupOk p = true) (hr : s.hasPending (·.isResetOf p.input) = false)
    (ho : (s.input p.input).state ≠ .off) (hl : p.ring = (s.ring p.input).slots.length) :
    checkInputSetup p s = none := by
  simp [checkInputSetup, hp, hr, ho, hl]

theorem checkInputSetup_enables (hp : inputSetupOk p = true) (hr : s.hasPending (·.isResetOf p.input) = false)
    (ho : (s.input p.input).state = .off) (hl : p.ring ≤ s.freeSlots.length) : checkInputSetup p s = none := by
  simp [checkInputSetup, hp, hr, ho, Nat.not_lt.2 hl]

/-! #### What an accepted Input Setup does (R19) -/

theorem applyInputSetup_off (ho : (s.input p.input).state = .off) (he : p.enable = 0) : applyInputSetup p s
    = s.setInput p.input { (s.input p.input).withSettings p with ringLength := p.ring } := by
  simp [applyInputSetup, ho, he]

theorem applyInputSetup_enabled (ho : (s.input p.input).state ≠ .off) (he : p.enable = 1) : applyInputSetup p s
    = s.setInput p.input ((s.input p.input).withSettings p) := by
  unfold applyInputSetup
  cases h : (s.input p.input).state <;> simp_all

theorem applyInputSetup_enables (ho : (s.input p.input).state = .off) (he : p.enable = 1) :
    applyInputSetup p s = enableInput p s := by
  simp [applyInputSetup, ho, he]

theorem applyInputSetup_disables (ho : (s.input p.input).state ≠ .off) (he : p.enable = 0) :
    applyInputSetup p s = disableInput p s := by
  unfold applyInputSetup
  cases h : (s.input p.input).state <;> simp_all

/-- An input that is enabled: its settings, its ring of the lowest FREE slots, SEARCHING and its event (R19 (2), R27). -/
theorem enableInput_eq (ho : (s.input p.input).state = .off) (hc : (s.input p.input).counted = none) :
    enableInput p s = { s with
      inputs := put s.inputs p.input { (s.input p.input).withSettings p with
        ringLength := p.ring, sequence := 0, lastStart := none, state := .searching }
      slots := alter s.slots (s.freeSlots.take p.ring) (Slot.toEmpty (.input p.input))
      rings := put s.rings p.input ⟨s.freeSlots.take p.ring, [], 0⟩
      events := s.events.raised (.inputState p.input .searching none) } := by
  have state : ((s.input p.input).withSettings p).state = .off := ho
  have counted : ((s.input p.input).withSettings p).counted = none := hc
  simp only [enableInput, raiseInput_eq, state, counted]
  rfl

/-- The answer of a setup that has left the link as its dispatch did (R150, R151). -/
theorem setup_answered {u : State} (h : t = reservePlace u) : answer tag 0x10 .done t = u.replied tag 0x10 .done [] := by
  rw [h, answer_reserved]

/-- Settles O28: the three accepted setups that do not disable the input. -/
theorem inputSetupStoresAndEnables : Obligations.InputSetupStoresAndEnables := by
  refine ⟨fun tag p s h hp hr => ⟨fun ho he => ?_, fun ho he hl => ?_⟩, fun tag p s h hp hr ho hu he hl => ?_⟩
  · rw [inputSetup_accepted h (checkInputSetup_disabled hp hr he), applyInputSetup_off (s := reservePlace s) ho he]
    exact congrArg _ (setup_answered rfl)
  · rw [inputSetup_accepted h (checkInputSetup_enabled hp hr ho hl), applyInputSetup_enabled (s := reservePlace s) ho he]
    exact congrArg _ (setup_answered rfl)
  · have counted : (s.input p.input).counted = none := (hu.unqualified (.inl ho)).1
    rw [inputSetup_accepted h (checkInputSetup_enables hp hr ho hl), applyInputSetup_enables (s := reservePlace s) ho he,
      enableInput_eq (s := reservePlace s) ho counted]
    exact congrArg _ (setup_answered rfl)

end Sys2Proof.Machine
end

section
/-! ### Input Setup that disables an input (R19 (4), R31) -/

namespace Sys2Proof.Machine

variable {s t : State} {i n w : Nat} {tag : Byte} {p : InputSetupFields}

/-! #### The release of a ring (R31) -/

/-- A place of a bank altered in places, as a choice on membership. -/
theorem look_alter_mem {α : Type} {k : Nat} (v : Vector α k) (ns : List Nat) (f : α → α) (d : α) {j : Nat} (h : j < k) :
    look (alter v ns f) j d = if j ∈ ns then f (look v j d) else look v j d := by
  rw [look_alter _ _ _ _ h]
  simp only [List.contains_iff_mem]

/-- The windows that are unfrozen are those frozen on the input (R31, R55). -/
theorem mem_frozenOn : w ∈ s.frozenOn i ↔ w < 64 ∧ (s.window w).frozen = true ∧ (s.window w).shown = .input i := by
  simp [State.frozenOn, windowNumbers, List.mem_filter]

/-- Everything the release of a ring touches. -/
theorem releaseRing_eq (i : Nat) (s : State) : releaseRing i s = { s with
    slots := (releaseRing i s).slots
    rings := put s.rings i Ring.reset
    windows := alter s.windows (s.frozenOn i) fun x => { x with frozen := false }
    pins := alter s.pins (s.frozenOn i) fun _ => none
    reservations := (failGrab i .aborted s).reservations
    link := (failGrab i .aborted s).link } := by
  unfold releaseRing
  rw [failGrab_eq, failGrab_reservations, failGrab_reservations, failGrab_link, failGrab_link]
  rfl

/-- The slots after the release of a ring: held ones retire, the others are FREE, and so is the reservation of a pending
grab (R31, R36). -/
theorem releaseRing_slot (hn : n < 96) : (releaseRing i s).slot n =
    if s.hasPending (·.isGrabOf i) = true ∧ s.reservation i = some n
    then (if n ∈ (s.ring i).slots then (s.slot n).released else s.slot n).toFree
    else if n ∈ (s.ring i).slots then (s.slot n).released else s.slot n := by
  unfold releaseRing
  rw [failGrab_slot]
  have released : look (alter s.slots (s.ring i).slots Slot.released) n Slot.reset
      = if n ∈ (s.ring i).slots then (s.slot n).released else s.slot n := by
    exact look_alter_mem _ _ _ _ hn
  rw [← released]
  rfl

/-- A held slot retires when its ring is released, any other is FREE; either way it has no owner and keeps its pixels and
its claims (R31). -/
theorem Slot.released_held {x : Slot} (h : x.claims ≠ 0 ∨ x.pinned.isSome = true) : x.released = x.toRetiring :=
  if_pos (by simpa [Slot.isHeld] using h)

theorem Slot.released_unheld {x : Slot} (hc : x.claims = 0) (hp : x.pinned = none) : x.released = x.toFree :=
  if_neg (by simp [Slot.isHeld, hc, hp])

theorem Slot.released_keeps (x : Slot) :
    x.released.picture = x.picture ∧ x.released.claims = x.claims ∧ x.released.owner = .none := by
  unfold Slot.released
  split <;> exact ⟨rfl, rfl, rfl⟩

/-- The windows and pins after all windows frozen on an input are unfrozen (R31, R55). -/
theorem unfrozen_window (hw : w < 64)
    (window : t.window w = if w ∈ s.frozenOn i then { s.window w with frozen := false } else s.window w)
    (pin : t.pin w = if w ∈ s.frozenOn i then none else s.pin w) :
    ((s.window w).frozen = true → (s.window w).shown = .input i →
        t.window w = { s.window w with frozen := false } ∧ t.pin w = none) ∧
      ((s.window w).frozen = false ∨ (s.window w).shown ≠ .input i →
        t.window w = s.window w ∧ t.pin w = s.pin w) := by
  rw [window, pin]
  refine ⟨fun hf hs => ?_, fun h => ?_⟩
  · have frozen : w ∈ s.frozenOn i := mem_frozenOn.2 ⟨hw, hf, hs⟩
    rw [if_pos frozen, if_pos frozen]
    exact ⟨rfl, rfl⟩
  · have kept : w ∉ s.frozenOn i := by
      rw [mem_frozenOn]
      rintro ⟨-, hf, hs⟩
      rcases h with h | h
      · simp [h] at hf
      · exact h hs
    rw [if_neg kept, if_neg kept]
    exact ⟨rfl, rfl⟩

/-! #### The unit and the part -/

/-- The unit after an Input Setup that disables it: OFF, with the new settings and its counters (R7, R19). -/
def Input.disabled (u : Input) (p : InputSetupFields) : Input :=
  { (u.withSettings p).toOff with ringLength := p.ring }

/-- A unit that leaves a frame in progress: the slot being filled is emptied, the unit becomes `v`, and INPUT STATE is
raised where its state changes (R14, R44). -/
theorem raiseInput_emptied (i : Nat) (u v : Input) (stored : Bool) (s : State) :
    ∃ m : State, raiseInput i u v false ((if stored then badEnd i s else s).setInput i v) = m
      ∧ m = { s with
        inputs := put s.inputs i v, slots := m.slots
        events := if u.state = v.state then s.events else s.events.raised (.inputState i v.state v.counted) }
      ∧ ∀ n, m.slot n = (if stored then badEnd i s else s).slot n := by
  refine ⟨_, raiseInput_eq i u v false _, ?_, fun n => rfl⟩
  rw [emptied_eq]
  rfl

/-- An input that is disabled: the slot being filled is emptied, the unit is OFF, and its ring is released (R7, R19). -/
theorem disableInput_eq (ho : (s.input p.input).state ≠ .off) :
    ∃ (m : State) (stored : Bool), disableInput p s = settlePresence s.lockPresent (releaseRing p.input m)
      ∧ m = { s with
        inputs := put s.inputs p.input ((s.input p.input).disabled p), slots := m.slots
        events := s.events.raised (.inputState p.input .off none) }
      ∧ ∀ n, m.slot n = (if stored then badEnd p.input s else s).slot n := by
  let u := (s.input p.input).withSettings p
  have changed : ¬u.state = ((s.input p.input).disabled p).state := ho
  obtain ⟨m, e, frame, slots⟩ := raiseInput_emptied p.input u ((s.input p.input).disabled p)
    ((u.frame.map FrameInProgress.stored).getD false) s
  refine ⟨m, _, ?_, ?_, slots⟩
  · rw [← e]
    rfl
  · rw [if_neg changed] at frame
    exact frame

/-- What presence brings does not depend on the link. -/
theorem TimeFollows.withLink {was : Bool} {a : TimeBase} {e : EventUnit} {l : Link} (h : TimeFollows was a e t) :
    TimeFollows was a e { t with link := l } :=
  ⟨h.gained, h.lost, h.stays⟩

/-- Settles O29: the release of the ring after the unit has entered OFF, and what presence lost brings. -/
theorem inputSetupDisables : Obligations.InputSetupDisables := by
  intro tag p s h hp hr ho he
  obtain ⟨m, stored, e, frame, slots⟩ := disableInput_eq (s := reservePlace s) ho
  have ends := inputSetup_accepted (tag := tag) h (checkInputSetup_disabled hp hr he)
  rw [applyInputSetup_disables (s := reservePlace s) ho he, e] at ends
  have ring : m.ring p.input = s.ring p.input := by rw [frame]; rfl
  have pending : m.hasPending (·.isGrabOf p.input) = s.hasPending (·.isGrabOf p.input) := by rw [frame]; rfl
  have reservation : m.reservation p.input = s.reservation p.input := by rw [frame]; rfl
  have slot {n : Nat} (hn : n < 96) := releaseRing_slot (s := m) (i := p.input) hn
  simp only [ring, pending, reservation] at slot
  obtain ⟨t, ht⟩ : ∃ t, t = answer tag 0x10 .done (settlePresence (reservePlace s).lockPresent (releaseRing p.input m)) :=
    ⟨_, rfl⟩
  have place : s.link.reserved + 1 - (s.link.table.filter fun e => e.target.isGrabOf p.input).length - 1
      = s.link.reserved - (s.link.table.filter fun e => e.target.isGrabOf p.input).length := by omega
  have sameSlot : ∀ n, t.slot n = (releaseRing p.input m).slot n := fun n => ht ▸ settlePresence_slot _ _ n
  refine ⟨t, ht ▸ ends, ?_, fun n => ?_, fun n hn hg => ⟨fun hm => ?_, fun hm => ?_⟩, fun w hw => ?_,
    fun n hg hres hn => ?_,     ?_⟩
  · rw [ht, settlePresence_eq, releaseRing_eq, failGrab_reservations, failGrab_link, pending, frame, ← place]
    rfl
  · have picture : (m.slot n).picture = (s.slot n).picture := by
      rw [slots]
      rcases emptied_slot_cases stored p.input n (reservePlace s) with e | ⟨-, e⟩ <;> rw [e] <;> rfl
    have released := (m.slot n).released_keeps.1
    by_cases hn : n < 96
    · rw [sameSlot, slot hn, ← picture]
      split <;> split
      · exact released
      · rfl
      · exact released
      · rfl
    · rw [slot_outside t (Nat.le_of_not_lt hn), slot_outside s (Nat.le_of_not_lt hn)]
  · obtain ⟨-, claims, owner⟩ := (m.slot n).released_keeps
    rw [sameSlot, slot hn, if_neg fun h => hg h.1 h.2, if_pos hm]
    have unmarked := emptied_slot_cases stored p.input n (reservePlace s)
    rw [← slots] at unmarked
    rcases unmarked with e | ⟨hf, e⟩
    · have e : m.slot n = s.slot n := e
      rw [e] at claims owner ⊢
      exact ⟨owner, claims, fun hh => by rw [Slot.released_held hh]; exact ⟨rfl, rfl, fun _ => rfl⟩,
        fun hc hp => by rw [Slot.released_unheld hc hp]; rfl⟩
    · have e : m.slot n = (s.slot n).toEmpty (.input p.input) := e
      rw [e] at claims owner ⊢
      exact ⟨owner, claims,
        fun hh => by
          rw [Slot.released_held (x := (s.slot n).toEmpty _) hh]
          exact ⟨rfl, rfl, fun hne => absurd hf hne⟩,
        fun hc hp => by rw [Slot.released_unheld (x := (s.slot n).toEmpty _) hc hp]; rfl⟩
  · rw [sameSlot, slot hn, if_neg fun h => hg h.1 h.2, if_neg hm, slots]
    exact emptied_slot_of_ne (s := reservePlace s) stored (.inl hm)
  · have frozen : m.frozenOn p.input = s.frozenOn p.input := by rw [frame]; rfl
    have windows : t.windows = alter s.windows (s.frozenOn p.input) fun x => { x with frozen := false } := by
      rw [ht, ← frozen, settlePresence_eq, releaseRing_eq, frame]
      rfl
    have pins : t.pins = alter s.pins (s.frozenOn p.input) fun _ => none := by
      rw [ht, ← frozen, settlePresence_eq, releaseRing_eq, frame]
      rfl
    refine unfrozen_window hw ?_ ?_
    · rw [State.window, windows, look_alter_mem _ _ _ _ hw]
      rfl
    · rw [State.pin, pins, look_alter_mem _ _ _ _ hw]
      rfl
  · rw [sameSlot, slot hn, if_pos ⟨hg, hres⟩]
    exact ⟨rfl, rfl, rfl, rfl⟩
  · rw [ht]
    exact (settlePresence_follows_of _ (by rw [releaseRing_eq, frame]; rfl) (by rw [releaseRing_eq, frame]; rfl)).withLink

end Sys2Proof.Machine
end

section
/-! ### Windows unfrozen one after another within an output frame (R53, R55) -/

namespace Sys2Proof.Machine

variable {s t : State} {i n w : Nat} {ws : List Nat}

/-! #### The lowest window that pins a slot (R53) -/

/-- No window pins the slot, or the lowest-numbered one that does (R53). -/
theorem lowestPinner_none (h : ∀ w, w < 64 → s.pin w ≠ some n) : s.lowestPinner n = none := by
  simpa [State.lowestPinner, windowNumbers, List.find?_eq_none] using h

/-- A place that the bank of pins lacks reads as no pin. -/
theorem pin_outside (s : State) (h : 64 ≤ w) : s.pin w = none := look_outside _ _ h

theorem lt_of_pin (h : s.pin w = some n) : w < 64 := by
  by_contra hw
  rw [pin_outside s (Nat.le_of_not_lt hw)] at h
  cases h

theorem lowestPinner_isSome (h : s.pin w = some n) : (s.lowestPinner n).isSome = true := by
  rw [State.lowestPinner, List.find?_isSome]
  exact ⟨w, by simpa [windowNumbers] using lt_of_pin h, by simp [h]⟩

theorem lowestPinner_first (h : s.pin w = some n) (hf : ∀ v, v < w → s.pin v ≠ some n) : s.lowestPinner n = some w := by
  have range : windowNumbers = List.range 64 := rfl
  rw [State.lowestPinner, range, List.find?_range_eq_some]
  exact ⟨by simp [h], by simpa using lt_of_pin h, fun v hv => by simpa using hf v hv⟩

/-- The lowest pinner depends on the pins that name the slot only. -/
theorem lowestPinner_congr (h : ∀ w, w < 64 → (t.pin w = some n ↔ s.pin w = some n)) :
    t.lowestPinner n = s.lowestPinner n := by
  refine List.find?_congr fun w hw => ?_
  have hw : w < 64 := by simpa [windowNumbers] using hw
  rw [Bool.eq_iff_iff]
  simpa using h w hw

/-! #### One window (R53) -/

/-- A slot after `count` of its pins have been released within an output frame, `left` being the lowest window that pins
it still (R53). -/
def Slot.unpinned (x : Slot) (left : Option Nat) (count : Nat) : Slot :=
  if count = 0 then x
  else { x with
    pinned := left, state := if left.isNone then .stale else x.state, claims := claimsAfter x.claims count }

/-- The pins after a window pin is released (R53). -/
theorem releasePin_pins (w : Nat) (b : Bool) (s : State) : (releasePin w b s).pins = put s.pins w none := by
  unfold releasePin
  split
  · rename_i h
    rw [← h]
    exact (put_look _ _ _).symm
  · cases b <;> rfl

/-- The slots after a window pin is released within an output frame: its slot gains a claim and keeps the lowest window
that still pins it, or becomes STALE (R53). -/
theorem releasePin_slot (hn : n < 96) : (releasePin w true s).slot n =
    (s.slot n).unpinned ((releasePin w true s).lowestPinner n) (if s.pin w = some n then 1 else 0) := by
  unfold releasePin
  cases h : s.pin w with
  | none => rfl
  | some m =>
    by_cases e : m = n
    · subst e
      simp only [if_true]
      rw [addClaim_slot _ _ hn, if_pos rfl, State.setSlot_slot_same _ _ _ hn]
      show _ = (s.slot m).unpinned ((s.setPin w none).lowestPinner m) 1
      generalize (s.setPin w none).lowestPinner m = left
      cases left <;> rfl
    · have other : ¬some m = some n := fun h => e (Option.some.inj h)
      simp only [if_true, if_neg other]
      exact (State.setSlot_slot_ne _ _ _ _ (Ne.symm e)).trans (State.setSlot_slot_ne _ _ _ _ (Ne.symm e))

/-- The same for an unfrozen window. -/
theorem unfreeze_pins (w : Nat) (b : Bool) (s : State) : (unfreeze w b s).pins = put s.pins w none :=
  releasePin_pins w b _

theorem unfreeze_slot (hn : n < 96) : (unfreeze w true s).slot n =
    (s.slot n).unpinned ((unfreeze w true s).lowestPinner n) (if s.pin w = some n then 1 else 0) :=
  releasePin_slot (s := s.setWindow w { s.window w with frozen := false }) hn

theorem unfreeze_window {v : Nat} (b : Bool) (hv : v < 64) :
    (unfreeze w b s).window v = if v = w then { s.window v with frozen := false } else s.window v := by
  rw [unfreeze_eq]
  split
  · subst v
    exact look_put_same _ _ _ hv
  · exact look_put_ne _ _ _ ‹_›

/-! #### All of them (R55) -/

/-- The part after the windows of a list are unfrozen one after another. -/
def State.unfrozen (s : State) (ws : List Nat) : State := ws.foldl (fun s w => unfreeze w true s) s

theorem unfrozen_cons (w : Nat) (ws : List Nat) (s : State) :
    s.unfrozen (w :: ws) = (unfreeze w true s).unfrozen ws := rfl

theorem unfrozen_eq (ws : List Nat) : ∀ s : State, s.unfrozen ws = { s with
    windows := (s.unfrozen ws).windows, pins := (s.unfrozen ws).pins, slots := (s.unfrozen ws).slots } := by
  induction ws with
  | nil => exact fun s => rfl
  | cons w ws ih =>
    intro s
    rw [unfrozen_cons, ih, unfreeze_eq]

theorem unfrozen_pin (v : Nat) (ws : List Nat) : ∀ s : State,
    (s.unfrozen ws).pin v = if v ∈ ws then none else s.pin v := by
  induction ws with
  | nil => exact fun s => rfl
  | cons w ws ih =>
    intro s
    have one : (unfreeze w true s).pin v = if v = w then none else s.pin v := by
      rw [State.pin, unfreeze_pins]
      split
      · subst v
        by_cases hw : w < 64
        · exact look_put_same _ _ _ hw
        · exact look_outside _ _ (Nat.le_of_not_lt hw)
      · exact look_put_ne _ _ _ ‹_›
    rw [unfrozen_cons, ih, one]
    by_cases h : v ∈ ws <;> by_cases h' : v = w <;> simp [h, h']

theorem unfrozen_windows {v : Nat} (hv : v < 64) (ws : List Nat) : ∀ s : State,
    (s.unfrozen ws).window v = if v ∈ ws then { s.window v with frozen := false } else s.window v := by
  induction ws with
  | nil => exact fun s => rfl
  | cons w ws ih =>
    intro s
    rw [unfrozen_cons, ih, unfreeze_window true hv]
    by_cases h : v ∈ ws <;> by_cases h' : v = w <;> simp [h, h']

/-- Claims left one by one (R26). -/
theorem claimsAfter_add (c a b : Nat) : claimsAfter (claimsAfter c a) b = claimsAfter c (a + b) := by
  unfold claimsAfter
  by_cases ha : a = 0 <;> by_cases hb : b = 0 <;> simp [ha, hb]
  omega

/-- Pins released in two steps, the first leaving the slot pinned if the second still releases one of its pins (R53). -/
theorem Slot.unpinned_unpinned {x : Slot} {l₁ l₂ : Option Nat} {a b : Nat} (hb : b ≠ 0 → l₁.isSome = true)
    (hz : b = 0 → l₁ = l₂) : (x.unpinned l₁ a).unpinned l₂ b = x.unpinned l₂ (a + b) := by
  by_cases h : b = 0
  · subst h
    rw [hz rfl]
    rfl
  · have some : l₁.isNone = false := by simpa using hb h
    by_cases ha : a = 0
    · subst ha
      rw [Nat.zero_add]
      rfl
    · simp [Slot.unpinned, h, ha, some, claimsAfter_add]

/-- Each slot loses the released pins and gains a claim for each of them; it keeps the lowest window that still pins it,
or becomes STALE (R53). -/
theorem unfrozen_slot (hn : n < 96) (ws : List Nat) : ∀ s : State, ws.Nodup → (s.unfrozen ws).slot n =
    (s.slot n).unpinned ((s.unfrozen ws).lowestPinner n) (ws.countP fun w => s.pin w == some n) := by
  induction ws with
  | nil => exact fun s _ => rfl
  | cons w ws ih =>
    intro s hnd
    obtain ⟨hw, hnd⟩ := List.nodup_cons.1 hnd
    have one : ∀ v, v ∈ ws → (unfreeze w true s).pin v = s.pin v := fun v hv =>
      (unfrozen_pin v [w] s).trans (if_neg (by rintro h; exact hw (List.mem_singleton.1 h ▸ hv)))
    have count : (ws.countP fun v => (unfreeze w true s).pin v == some n) = ws.countP fun v => s.pin v == some n :=
      List.countP_congr fun v hv => by rw [one v hv]
    rw [unfrozen_cons, ih _ hnd, unfreeze_slot hn, count, List.countP_cons, Slot.unpinned_unpinned]
    · congr 1
      simp [Nat.add_comm]
    · intro hc
      obtain ⟨v, hv, hp⟩ := List.countP_pos_iff.1 (Nat.pos_of_ne_zero hc)
      exact lowestPinner_isSome ((one v hv).trans (by simpa using hp))
    · intro hc
      refine (lowestPinner_congr fun v _ => ?_).symm
      rw [unfrozen_pin]
      by_cases hv : v ∈ ws
      · have := List.countP_eq_zero.1 hc v hv
        simp_all
      · rw [if_neg hv]

end Sys2Proof.Machine
end

section
/-! ### Input Reset (R20, R54, R55) -/

namespace Sys2Proof.Machine

variable {s t : State} {i n w : Nat} {tag : Byte}

/-- An Input Reset whose checks hold enters the table and acts at once (R20). -/
theorem inputReset_accepted (h : s.Ready) (hi : i ≤ 15) (ho : (s.input i).state ≠ .off)
    (hr : s.hasPending (·.isResetOf i) = false) (hl : s.link.table.length < 16) :
    exec (.inputReset tag i) s = .next (resetInput i (s.entered tag (.reset i))) := by
  have full : s.tableFull = false := by rw [← Bool.not_eq_true, tableFull_iff]; omega
  have checks : checkInputReset i (reservePlace s) = none := by
    show checkInputReset i s = none
    simp [checkInputReset, Nat.not_lt.2 hi, ho, hr, full]
  refine (request_ready h _ _).trans ?_
  simp only [requestInputReset, checks]
  rfl

/-- The unit after an Input Reset: SEARCHING, with its counters and sequence at 0 (R20). -/
def Input.searchingAnew (u : Input) : Input :=
  { u.toSearching with frame := none, framesStored := 0, framesBad := 0, lockLosses := 0, sequence := 0 }

/-- An input that is reset: the slot being filled is emptied, the unit is SEARCHING, its ring is marked, its windows are
unfrozen, and a pending grab ends with ABORTED (R20, R36, R54, R55). -/
theorem resetInput_eq (i : Nat) (s : State) :
    ∃ (m : State) (stored : Bool), resetInput i s = settlePresence s.lockPresent
        (failGrab i .aborted ((markStale i m).unfrozen (s.frozenOn i)))
      ∧ m = { s with
        inputs := put s.inputs i (s.input i).searchingAnew, slots := m.slots
        events := if (s.input i).state = .searching then s.events
          else s.events.raised (.inputState i .searching none) }
      ∧ ∀ n, m.slot n = (if stored then badEnd i s else s).slot n := by
  obtain ⟨m, e, frame, slots⟩ := raiseInput_emptied i (s.input i) (s.input i).searchingAnew
    (((s.input i).frame.map FrameInProgress.stored).getD false) s
  refine ⟨m, _, ?_, frame, slots⟩
  have frozen : (markStale i m).frozenOn i = s.frozenOn i := by rw [frame]; rfl
  rw [← frozen, ← e]
  rfl

/-- Releasing pins keeps a slot's pixels, owner, sequence and format (R53). -/
theorem Slot.unpinned_keeps (x : Slot) (left : Option Nat) (count : Nat) :
    (x.unpinned left count).picture = x.picture ∧ (x.unpinned left count).owner = x.owner
      ∧ (x.unpinned left count).sequence = x.sequence ∧ (x.unpinned left count).format = x.format := by
  unfold Slot.unpinned
  split <;> exact ⟨rfl, rfl, rfl, rfl⟩

/-- Marking a slot that is not FILLING stale keeps its owner, sequence and format (R54). -/
theorem Slot.marked_keeps {x : Slot} (h : x.state ≠ .filling) :
    (x.marked i).owner = x.owner ∧ (x.marked i).sequence = x.sequence ∧ (x.marked i).format = x.format := by
  unfold Slot.marked
  split
  · split <;> exact ⟨rfl, rfl, rfl⟩
  · exact absurd ‹_› h
  all_goals exact ⟨rfl, rfl, rfl⟩

/-- The slot of a ring that is marked stale, as it stands before its pins are released (R54). -/
def State.markedSlot (s : State) (i n : Nat) : Slot :=
  if n ∈ (s.ring i).slots then (s.slot n).marked i else s.slot n

/-- The windows after an Input Reset (R55). -/
theorem resetInput_window (hw : w < 64) : (resetInput i s).window w =
    if w ∈ s.frozenOn i then { s.window w with frozen := false } else s.window w := by
  obtain ⟨m, stored, e, frame, -⟩ := resetInput_eq i s
  have windows : (markStale i m).window w = s.window w := by rw [frame]; rfl
  rw [← windows, ← unfrozen_windows hw, e, settlePresence_eq, failGrab_eq]
  rfl

/-- The pins after an Input Reset (R53, R55). -/
theorem resetInput_pin (v : Nat) : (resetInput i s).pin v = if v ∈ s.frozenOn i then none else s.pin v := by
  obtain ⟨m, stored, e, frame, -⟩ := resetInput_eq i s
  have pin : (markStale i m).pin v = s.pin v := by rw [frame]; rfl
  rw [← pin, ← unfrozen_pin, e, settlePresence_eq, failGrab_eq]
  rfl

/-- The slots after an Input Reset: marked, without the pins of the unfrozen windows, and FREE where they were the
reservation of a pending grab (R36, R53, R54). -/
theorem resetInput_slot (hn : n < 96) : (resetInput i s).slot n =
    let x := (s.markedSlot i n).unpinned ((resetInput i s).lowestPinner n)
      ((s.frozenOn i).countP fun w => s.pin w == some n)
    if s.hasPending (·.isGrabOf i) = true ∧ s.reservation i = some n then x.toFree else x := by
  obtain ⟨m, stored, e, frame, slots⟩ := resetInput_eq i s
  have ring : m.ring i = s.ring i := by rw [frame]; rfl
  have marked : (markStale i m).slot n = s.markedSlot i n := by
    rw [markStale_slot_eq, ring, slots, marked_emptied, State.markedSlot]
    split
    · rfl
    · exact emptied_slot_of_ne stored (.inl ‹_›)
  have pins : ∀ v, (markStale i m).pin v = s.pin v := fun v => by rw [frame]; rfl
  have left : (resetInput i s).lowestPinner n = ((markStale i m).unfrozen (s.frozenOn i)).lowestPinner n :=
    lowestPinner_congr fun v _ => by rw [resetInput_pin, unfrozen_pin, pins]
  have nodup : (s.frozenOn i).Nodup := List.nodup_range.filter _
  have pending : ((markStale i m).unfrozen (s.frozenOn i)).hasPending (·.isGrabOf i) = s.hasPending (·.isGrabOf i) := by
    rw [unfrozen_eq, frame]; rfl
  have reservation : ((markStale i m).unfrozen (s.frozenOn i)).reservation i = s.reservation i := by
    rw [unfrozen_eq, frame]; rfl
  rw [left, e, settlePresence_slot, failGrab_slot, pending, reservation, unfrozen_slot hn _ _ nodup, marked]
  simp only [pins]

/-- Marking keeps pixels and claims; a slot that is not FILLING keeps its owner, sequence and format too (R54). -/
theorem markedSlot_holds (s : State) (i n : Nat) :
    (s.markedSlot i n).picture = (s.slot n).picture ∧ (s.markedSlot i n).claims = (s.slot n).claims := by
  unfold State.markedSlot
  split
  · obtain ⟨hp, hc, -⟩ := Slot.marked_holds i (s.slot n)
    exact ⟨hp, hc⟩
  · exact ⟨rfl, rfl⟩

theorem markedSlot_keeps (h : (s.slot n).state ≠ .filling) : (s.markedSlot i n).owner = (s.slot n).owner
    ∧ (s.markedSlot i n).sequence = (s.slot n).sequence ∧ (s.markedSlot i n).format = (s.slot n).format := by
  unfold State.markedSlot
  split
  · exact Slot.marked_keeps h
  · exact ⟨rfl, rfl, rfl⟩

/-- Everything an Input Reset touches, but for the slots and the time base. -/
theorem resetInput_frame (i : Nat) (s : State) : resetInput i s = { s with
    inputs := put s.inputs i (s.input i).searchingAnew
    rings := put s.rings i { s.ring i with age := [], fresh := 0 }
    slots := (resetInput i s).slots, windows := (resetInput i s).windows, pins := (resetInput i s).pins
    time := (resetInput i s).time, reservations := (failGrab i .aborted s).reservations
    link := (failGrab i .aborted s).link, events := (resetInput i s).events } := by
  obtain ⟨m, stored, e, frame, -⟩ := resetInput_eq i s
  rw [e, settlePresence_eq, failGrab_eq, failGrab_reservations, failGrab_reservations, failGrab_link, failGrab_link,
    unfrozen_eq, frame]
  rfl

/-- The time base and the event unit after an Input Reset (R64, R66). -/
theorem resetInput_follows (i : Nat) (s : State) : TimeFollows s.lockPresent s.time
    (if (s.input i).state = .searching then s.events else s.events.raised (.inputState i .searching none))
    (resetInput i s) := by
  obtain ⟨m, stored, e, frame, -⟩ := resetInput_eq i s
  rw [e]
  refine settlePresence_follows_of _ ?_ ?_ <;> rw [failGrab_eq, unfrozen_eq, frame] <;> rfl

/-- How many of the windows frozen on the input pin a slot (R53, R55). -/
def State.pinsOn (s : State) (i n : Nat) : Nat := (s.frozenOn i).countP fun w => s.pin w == some n

theorem pinsOn_eq (s : State) (i n : Nat) : s.pinsOn i n = ((List.range 64).filter fun w =>
    (s.window w).frozen && (s.window w).shown == .input i && s.pin w == some n).length := by
  rw [State.pinsOn, State.frozenOn, List.countP_filter, List.countP_eq_length_filter]
  simp only [Bool.and_comm]
  rfl

/-- None of them does, or one of them does. -/
theorem pinsOn_eq_zero_iff : s.pinsOn i n = 0 ↔
    ∀ w, (s.window w).frozen = true ∧ (s.window w).shown = .input i → s.pin w ≠ some n := by
  rw [State.pinsOn, List.countP_eq_zero]
  refine ⟨fun h w hw hp => ?_, fun h w hw hp => ?_⟩
  · exact h w (mem_frozenOn.2 ⟨lt_of_pin hp, hw⟩) (by simp [hp])
  · exact h w (mem_frozenOn.1 hw).2 (by simpa using hp)

/-- The slot has lost a pin and gained claims (R53). -/
theorem Slot.unpinned_pos {x : Slot} {left : Option Nat} {count : Nat} (h : count ≠ 0) : x.unpinned left count =
    { x with
      pinned := left, state := if left.isNone then .stale else x.state, claims := claimsAfter x.claims count } :=
  if_neg h

/-- Settles O30: the operations of `resetInput`, read off one by one on the part that holds the entry. -/
theorem inputResetActsAtOnce : Obligations.InputResetActsAtOnce := by
  intro tag i s h hi ho hr hl given released
  have grabs : (s.entered tag (.reset i)).hasPending (·.isGrabOf i) = s.hasPending (·.isGrabOf i) := by
    simp [State.hasPending, State.entered, PendingTarget.isGrabOf]
  have frame := resetInput_frame i (s.entered tag (.reset i))
  have pin : ∀ v, _ := fun v => resetInput_pin (s := s.entered tag (.reset i)) (i := i) v
  have slot : ∀ m, m < 96 → _ := fun m hm => resetInput_slot (s := s.entered tag (.reset i)) (i := i) hm
  have window : ∀ v, v < 64 → _ := fun v hv => resetInput_window (s := s.entered tag (.reset i)) (i := i) hv
  have follows := resetInput_follows i (s.entered tag (.reset i))
  have ends := inputReset_accepted (tag := tag) h hi ho hr hl
  rw [failGrab_reservations, failGrab_link, grabs] at frame
  rw [grabs] at slot
  generalize resetInput i (s.entered tag (.reset i)) = t at *
  have given_slot : ∀ m, m < 96 → given m →
      t.slot m = (s.markedSlot i m).unpinned (t.lowestPinner m) (s.pinsOn i m) := fun m hm hg =>
    (slot m hm).trans (if_neg fun h => hg h.1 h.2)
  have kept : ∀ m, m < 96 → given m → (∀ w, released w → s.pin w ≠ some m) → t.slot m = s.markedSlot i m := by
    intro m hm hg hp
    rw [given_slot m hm hg, pinsOn_eq_zero_iff.2 hp]
    rfl
  have lost : ∀ m, m < 96 → given m → (∃ w, released w ∧ s.pin w = some m) → t.slot m = { s.markedSlot i m with
      pinned := t.lowestPinner m, claims := claimsAfter (s.markedSlot i m).claims (s.pinsOn i m)
      state := if (t.lowestPinner m).isNone then .stale else (s.markedSlot i m).state } := by
    rintro m hm hg ⟨w, hw, hp⟩
    rw [given_slot m hm hg]
    exact Slot.unpinned_pos fun h => pinsOn_eq_zero_iff.1 h w hw hp
  refine ⟨t, ends, ?_, fun n => ⟨?_, fun hm hg hp => ?_⟩, fun n hn hm hg hp => ?_, fun n hn hg hp => ⟨?_, ?_, ?_, ?_⟩,
    fun n hg hres hn => ?_, fun w hw => ?_, follows⟩
  · have left : ((s.entered tag (.reset i)).link.table.filter fun e => !e.target.isGrabOf i)
        = (s.link.table.filter fun e => !e.target.isGrabOf i) ++ [⟨tag, .reset i⟩] := by
      simp [State.entered, PendingTarget.isGrabOf]
    have gone : ((s.entered tag (.reset i)).link.table.filter fun e => e.target.isGrabOf i)
        = s.link.table.filter fun e => e.target.isGrabOf i := by
      simp [State.entered, PendingTarget.isGrabOf]
    rw [left, gone] at frame
    exact frame
  · by_cases hn : n < 96
    · rw [slot n hn]
      split
      all_goals exact (Slot.unpinned_keeps _ _ _).1.trans (markedSlot_holds s i n).1
    · rw [slot_outside t (Nat.le_of_not_lt hn), slot_outside s (Nat.le_of_not_lt hn)]
  · by_cases hn : n < 96
    · rw [kept n hn hg hp, State.markedSlot, if_neg hm]
    · rw [slot_outside t (Nat.le_of_not_lt hn), slot_outside s (Nat.le_of_not_lt hn)]
  · exact markedStale_of_marked hn hm (by rw [kept n hn hg hp, State.markedSlot, if_pos hm])
  · rw [lost n hn hg hp, pinsOn_eq]
    exact congrArg (claimsAfter · _) (markedSlot_holds s i n).2
  · intro hf
    rw [lost n hn hg hp]
    exact markedSlot_keeps hf
  · intro hall
    have none : t.lowestPinner n = none := lowestPinner_none fun v hv hpin => by
      rw [pin v] at hpin
      split at hpin
      · cases hpin
      · exact ‹v ∉ _› (mem_frozenOn.2 ⟨hv, hall v hpin⟩)
    rw [lost n hn hg hp, none]
    exact ⟨rfl, rfl⟩
  · intro v hv hnot hfirst
    have notFrozen : v ∉ (s.entered tag (.reset i)).frozenOn i := fun h => hnot (mem_frozenOn.1 h).2
    have first : t.lowestPinner n = some v := by
      refine lowestPinner_first ((pin v).trans ((if_neg notFrozen).trans hv)) fun u hu hpin => ?_
      rw [pin u] at hpin
      split at hpin
      · cases hpin
      · exact ‹u ∉ _› (mem_frozenOn.2 ⟨lt_of_pin hpin, hfirst u hu hpin⟩)
    rw [lost n hn hg hp, first]
  · rw [slot n hn, if_pos ⟨hg, hres⟩]
    exact ⟨rfl, rfl, rfl, rfl⟩
  · exact unfrozen_window hw (window w hw) (pin w)

end Sys2Proof.Machine
end

section
/-! ### The fields of query data, by offset -/

namespace Sys2Proof.Machine

variable {p q a b : List Byte} {k n : Nat} {s : State}

/-! #### Bytes that stand in a payload from an offset on -/

/-- The bytes `q` stand in `p` from offset `k` on. -/
def Reads (p : List Byte) (k : Nat) (q : List Byte) : Prop := ∀ j, j < q.length → at8 p (k + j) = at8 q j

/-- A payload reads as itself. -/
theorem reads_self (p : List Byte) : Reads p 0 p := fun j _ => by rw [Nat.zero_add]

theorem reads_nil : Reads p k [] := nofun

theorem at8_cons_succ (x : Byte) (l : List Byte) (j : Nat) : at8 (x :: l) (j + 1) = at8 l j := by
  simp [at8]

/-- One byte and those after it. -/
theorem reads_cons (x : Byte) (l : List Byte) : Reads p k (x :: l) ↔ at8 p k = x.toNat ∧ Reads p (k + 1) l := by
  refine ⟨fun h => ⟨h 0 (Nat.zero_lt_succ _), fun j hj => ?_⟩, fun ⟨h0, h⟩ j hj => ?_⟩
  · have := h (j + 1) (Nat.succ_lt_succ hj)
    rwa [at8_cons_succ, ← Nat.add_assoc, Nat.add_right_comm] at this
  · cases j with
    | zero => exact h0
    | succ j =>
      rw [at8_cons_succ, ← h j (Nat.lt_of_succ_lt_succ hj)]
      congr 1
      omega

theorem reads_pair (x y : Byte) : Reads p k [x, y] ↔ at8 p k = x.toNat ∧ at8 p (k + 1) = y.toNat := by
  rw [reads_cons, reads_cons]
  exact ⟨fun h => ⟨h.1, h.2.1⟩, fun h => ⟨h.1, h.2, reads_nil⟩⟩

/-- What holds of every payload that reads as `q` holds of `q`. -/
theorem of_reads {P : List Byte → Prop} (q : List Byte) (h : ∀ p, p.length = q.length → Reads p 0 q → P p) : P q :=
  h q rfl (reads_self q)

/-- Two runs of bytes, one after the other. -/
theorem reads_append (a b : List Byte) : Reads p k (a ++ b) ↔ Reads p k a ∧ Reads p (k + a.length) b := by
  induction a generalizing k with
  | nil => simp [reads_nil]
  | cons x l ih =>
    rw [List.cons_append, reads_cons, reads_cons, ih, and_assoc, List.length_cons, Nat.add_assoc, Nat.add_comm 1]

/-- A run of equal bytes. -/
theorem reads_replicate {x : Byte} {m : Nat} (h : Reads p k (List.replicate m x)) {j : Nat} (hj : j < m) :
    at8 p (k + j) = x.toNat := by
  rw [h j (by simpa using hj)]
  simp [at8, hj]

/-- A run of bytes, one for each entry of a list. -/
theorem reads_map {α : Type} {f : α → Byte} {l : List α} (h : Reads p k (l.map f)) {j : Nat} {x : α}
    (hx : l[j]? = some x) : at8 p (k + j) = (f x).toNat := by
  have hj : j < l.length := (List.getElem?_eq_some_iff.1 hx).1
  rw [h j (by simpa using hj)]
  simp [at8, hx]

/-- A run of blocks of `m` bytes, one for each entry of a list. -/
theorem reads_flatMap {α : Type} {f : α → List Byte} {m : Nat} (hf : ∀ x, (f x).length = m) {l : List α}
    (h : Reads p k (l.flatMap f)) {j : Nat} {x : α} (hx : l[j]? = some x) : Reads p (k + m * j) (f x) := by
  induction l generalizing k j with
  | nil => simp at hx
  | cons y l ih =>
    rw [List.flatMap_cons, reads_append, hf] at h
    cases j with
    | zero =>
      obtain rfl : y = x := by simpa using hx
      exact h.1
    | succ j =>
      have := ih h.2 (by simpa using hx)
      rwa [Nat.add_assoc, Nat.add_comm m, ← Nat.mul_succ] at this

/-! #### Fields -/

/-- A field of one byte holds its number within eight bits. -/
theorem byte_toNat (n : Nat) : (byte n).toNat = n % 256 := BitVec.toNat_ofNat n 8

theorem flag_toNat (b : Bool) : (flag b).toNat = if b then 1 else 0 := by cases b <;> rfl

/-- A number or H'FF. -/
theorem optionAt_of {o : Option Nat} (h : at8 p k = (optByte o).toNat) : OptionAt p k o := by
  cases o with
  | none => exact h
  | some n => exact h.trans (byte_toNat n)

@[simp] theorem length_word (n : Nat) : (word n).length = 2 := rfl
@[simp] theorem length_word4 (n : Nat) : (word4 n).length = 4 := rfl
@[simp] theorem length_colourBytes (c : Colour) : (colourBytes c).length = 6 := rfl
@[simp] theorem length_rectBytes (r : Rect) : (rectBytes r).length = 8 := rfl

/-- A field of two bytes, high byte first. -/
theorem reads_word (h : Reads p k (word n)) : at16 p k = n % 65536 := by
  rw [word, reads_cons, reads_cons, byte_toNat, byte_toNat] at h
  obtain ⟨high, low, -⟩ := h
  rw [at16, high, low]
  omega

/-- A field of four bytes, high byte first. -/
theorem reads_word4 (h : Reads p k (word4 n)) : 65536 * at16 p k + at16 p (k + 2) = n % 4294967296 := by
  rw [word4, reads_cons, reads_cons, reads_pair] at h
  simp only [byte_toNat, Nat.add_assoc, Nat.reduceAdd] at h
  obtain ⟨h0, h1, h2, h3⟩ := h
  simp only [at16, Nat.add_assoc, Nat.reduceAdd, h0, h1, h2, h3]
  omega

theorem reads_colour {c : Colour} (h : Reads p k (colourBytes c)) : ColourAt p k c := by
  rw [colourBytes, reads_append, reads_append, List.length_append, length_word, length_word] at h
  obtain ⟨⟨hy, hb⟩, hr⟩ := h
  exact ⟨reads_word hy, reads_word hb, reads_word hr⟩

theorem reads_rect {r : Rect} (h : Reads p k (rectBytes r)) : RectAt p k r := by
  simp only [rectBytes, reads_append, List.length_append, length_word] at h
  obtain ⟨⟨⟨hx, hy⟩, hw⟩, hh⟩ := h
  exact ⟨reads_word hx, reads_word hy, reads_word hw, reads_word hh⟩

@[simp] theorem length_listBytes (room : Nat) (l : List Nat) : (listBytes room l).length = room := by
  simp [listBytes]
  omega

/-- A list in its room, H'FF beyond its end. -/
theorem reads_list {room : Nat} {l : List Nat} (h : Reads p k (listBytes room l)) : ListAt p k room l := by
  intro j hj
  rw [listBytes, reads_append] at h
  obtain ⟨entries, beyond⟩ := h
  cases hl : l[j]? with
  | some n =>
    have taken : (l.take room)[j]? = some n := by rw [List.getElem?_take_of_lt hj, hl]
    exact optionAt_of (reads_map entries taken)
  | none =>
    have le : l.length ≤ j := List.getElem?_eq_none_iff.1 hl
    have := reads_replicate beyond (j := j - l.length) (by omega)
    rw [List.length_map, List.length_take, show k + min room l.length + (j - l.length) = k + j by omega] at this
    exact this

@[simp] theorem Shown.length_bytes (x : Shown) : x.bytes.length = 2 := by cases x <;> rfl
@[simp] theorem Source.length_bytes (x : Source) : x.bytes.length = 2 := by
  cases x with
  | plain x => exact x.length_bytes
  | tour => rfl
@[simp] theorem TourEntry.length_bytes (x : TourEntry) : x.bytes.length = 2 := by cases x <;> rfl
@[simp] theorem Transition.length_bytes (x : Transition) : x.bytes.length = 2 := by cases x <;> rfl
@[simp] theorem Crop.length_bytes (x : Crop) : x.bytes.length = 9 := by cases x <;> rfl
@[simp] theorem TransState.length_bytes (x : TransState) : x.bytes.length = 7 := by
  cases x <;> simp [TransState.bytes]
@[simp] theorem Showing.length_bytes (x : Showing) : x.bytes.length = 2 := by cases x <;> rfl
@[simp] theorem LockSource.length_bytes (x : LockSource) : x.bytes.length = 2 := by cases x <;> rfl
@[simp] theorem length_formatBytes (x : Option Format) : (formatBytes x).length = 6 := by cases x <;> rfl

/-- A shown source. -/
theorem reads_shown {x : Shown} (h : Reads p k x.bytes) : ShownAt p k x := by
  cases x <;> simp only [Shown.bytes, reads_cons, byte_toNat] at h <;> exact ⟨h.1, h.2.1⟩

/-! #### Banks -/

/-- A bank as the list of its places. -/
theorem toList_look {α : Type} {m : Nat} (v : Vector α m) (d : α) :
    v.toList = (List.range m).map fun i => look v i d := by
  refine List.ext_getElem (by simp) fun i h _ => ?_
  have hi : i < m := by simpa using h
  simp [look, hi]

end Sys2Proof.Machine
end

section
/-! ### The data of the queries -/

namespace Sys2Proof.Machine

variable {p : List Byte} {k n : Nat} {s : State}

/-! #### The copy of a window (Tables 5.3 and 5.5) -/

/-- The tour list of a copy in its eight places. -/
def tourBytes (l : List TourEntry) : List Byte :=
  (l.take 8).flatMap TourEntry.bytes ++ List.replicate (2 * (8 - l.length)) 0xFF

@[simp] theorem length_tourBytes (l : List TourEntry) : (tourBytes l).length = 16 := by
  simp [tourBytes, List.length_flatMap]
  omega

/-- A tour entry, or H'FF in both of its bytes beyond the end of the list. -/
theorem reads_tour {l : List TourEntry} (h : Reads p k (tourBytes l)) {j : Nat} (hj : j < 8) :
    (∀ e, l[j]? = some e → ShownAt p (k + 2 * j) e.shown) ∧
    (l.length ≤ j → at8 p (k + 2 * j) = 255 ∧ at8 p (k + 1 + 2 * j) = 255) := by
  rw [tourBytes, reads_append] at h
  obtain ⟨entries, beyond⟩ := h
  refine ⟨fun e he => ?_, fun hl => ?_⟩
  · have taken : (l.take 8)[j]? = some e := by rw [List.getElem?_take_of_lt hj, he]
    have entry := reads_flatMap TourEntry.length_bytes entries taken
    have same : e.bytes = e.shown.bytes := by cases e <;> rfl
    exact reads_shown (same ▸ entry)
  · have length : ((l.take 8).flatMap TourEntry.bytes).length = 2 * l.length := by
      simp [List.length_flatMap]
      omega
    rw [length] at beyond
    have first := reads_replicate beyond (j := 2 * (j - l.length)) (by omega)
    have second := reads_replicate beyond (j := 2 * (j - l.length) + 1) (by omega)
    rw [show k + 2 * l.length + 2 * (j - l.length) = k + 2 * j by omega] at first
    rw [show k + 2 * l.length + (2 * (j - l.length) + 1) = k + 1 + 2 * j by omega] at second
    exact ⟨first, second⟩

theorem WindowConfig.bytes_eq (c : WindowConfig) : c.bytes = c.source.bytes ++ byte c.tourList.length ::
    (tourBytes c.tourList ++ (word c.dwell ++ (c.crop.bytes ++ (rectBytes c.dest ++ (word c.opacity ++
      byte c.border :: (colourBytes c.borderColour ++ (colourBytes c.fillColour ++ (c.transition.bytes ++
        [byte c.delay])))))))) := by
  simp [WindowConfig.bytes, tourBytes]

@[simp] theorem WindowConfig.length_bytes (c : WindowConfig) : c.bytes.length = 56 := by
  simp [WindowConfig.bytes_eq]

/-- A copy of a window. -/
theorem reads_copy {c : WindowConfig} (h : Reads p k c.bytes) : CopyAt p k c := by
  simp only [WindowConfig.bytes_eq, reads_append, reads_cons, Source.length_bytes, length_tourBytes, length_word,
    Crop.length_bytes, length_rectBytes, length_colourBytes, Transition.length_bytes, Nat.add_assoc, Nat.reduceAdd,
    byte_toNat] at h
  obtain ⟨source, count, tour, dwell, crop, dest, opacity, border, borderColour, fillColour, transition, delay, -⟩ := h
  refine ⟨fun x hx => ?_, fun hx => ?_, count, fun j hj => ?_, reads_word dwell, fun hx j hj => ?_, fun r hx => ?_,
    reads_rect dest, reads_word opacity, border, reads_colour borderColour, reads_colour fillColour, fun hx => ?_,
    fun n hx => ?_, fun n hx => ?_, delay⟩
  · rw [hx] at source
    exact reads_shown source
  · rw [hx, Source.bytes, reads_pair] at source
    exact source
  · obtain ⟨entry, beyond⟩ := reads_tour tour hj
    refine ⟨entry, fun hl => ?_⟩
    exact beyond hl
  · rw [hx] at crop
    exact reads_replicate crop hj
  · rw [hx, Crop.bytes, reads_cons] at crop
    exact ⟨crop.1, reads_rect crop.2⟩
  all_goals
    rw [hx, Transition.bytes, reads_pair] at transition
  · exact transition
  · exact ⟨transition.1, transition.2.trans (byte_toNat n)⟩
  · exact ⟨transition.1, transition.2.trans (byte_toNat n)⟩

/-! #### The reports -/

/-- Input Query (Table 1.5). -/
theorem inputReported (s : State) (i : Nat) : InputReported s i (inputQueryData i s) := by
  refine of_reads _ fun p length h => ?_
  simp only [inputQueryData, List.append_assoc, List.cons_append, List.nil_append, reads_append, reads_cons,
    length_formatBytes, length_colourBytes, length_word, length_word4, byte_toNat, flag_toNat, Nat.reduceAdd] at h
  obtain ⟨state, count, format, ring, hk, hl, subst, still, colour, reset, stored, bad, lost, sequence⟩ := h
  refine ⟨?_, ?_, count, fun hc => ?_, fun f hc => ?_, ⟨ring, hk, hl⟩, ?_, ⟨still, reads_colour colour⟩, reset,
    reads_word4 stored, reads_word bad, reads_word lost, reads_word sequence⟩
  · simp [length, inputQueryData]
  · rw [state]
    cases (s.input i).state <;> rfl
  · rw [hc] at format
    intro j h2 h7
    obtain ⟨d, rfl⟩ := Nat.exists_eq_add_of_le h2
    exact reads_replicate (m := 6) format (by omega)
  · rw [hc, formatBytes, reads_append, reads_append, reads_pair] at format
    obtain ⟨⟨width, height⟩, rate, scan⟩ := format
    refine ⟨reads_word width, reads_word height, ?_, ?_⟩
    · refine rate.trans ?_
      cases f.rate <;> rfl
    · refine scan.trans ?_
      cases f.progressive <;> rfl
  · rw [subst]
    cases (s.input i).substKind <;> rfl

/-- Device Query (Table 9.7). -/
theorem deviceReported (s : State) : DeviceReported s (deviceQueryData s) := by
  refine of_reads _ fun p length h => ?_
  simp only [deviceQueryData, List.append_assoc, List.cons_append, List.nil_append, reads_append, reads_cons,
    LockSource.length_bytes, byte_toNat, Nat.reduceAdd] at h
  obtain ⟨timing, rate, source, free, pending, errors⟩ := h
  refine ⟨?_, ?_, ?_, ?_, ?_, free, pending, reads_word errors⟩
  · simp [length, deviceQueryData]
  · rw [timing]
    cases s.time.timing <;> rfl
  · rw [rate]
    cases s.time.rate <;> rfl
  · cases hs : s.time.source with
    | free | reference | input i => rw [hs, LockSource.bytes, reads_pair] at source; exact source.1
  · cases hs : s.time.source with
    | free | reference => rw [hs, LockSource.bytes, reads_pair] at source; exact source.2
    | input i => rw [hs, LockSource.bytes, reads_pair] at source; exact source.2.trans (byte_toNat i)

/-- Port Query (Table 8.4). -/
theorem portReported (s : State) (n : Nat) : PortReported s n (portQueryData n s) := by
  refine of_reads _ fun p length h => ?_
  simp only [portQueryData, List.cons_append, List.nil_append, reads_cons, byte_toNat, flag_toNat, Nat.reduceAdd] at h
  obtain ⟨state, enable, depth, full, protectA, protectB, action, index, auto, assigned, pending, causeA, causeB, hold,
    lineA, lineB, showing⟩ := h
  refine ⟨?_, ?_, ⟨enable, depth, full, protectA, protectB⟩, ?_, index, auto, optionAt_of assigned, pending,
    ⟨causeA, causeB, hold⟩, ⟨lineA, lineB⟩, ?_, ?_⟩
  · simp [length, portQueryData]
  · rw [state]
    cases (s.port n).state <;> rfl
  · rw [action]
    cases (s.port n).action <;> rfl
  · cases hs : (s.port n).showing with
    | black | scene k | still e => rw [hs, Showing.bytes, reads_pair] at showing; exact showing.1
  · cases hs : (s.port n).showing with
    | black => rw [hs, Showing.bytes, reads_pair] at showing; exact showing.2
    | scene k => rw [hs, Showing.bytes, reads_pair] at showing; exact showing.2.trans (byte_toNat k)
    | still e => rw [hs, Showing.bytes, reads_pair] at showing; exact showing.2.trans (byte_toNat e)

/-- The position of a window in a layer list (Table 5.5). -/
theorem layerAt_of {l : List Nat} {w : Nat} (h : at8 p k = (layerByte l w).toNat) : LayerAt p k l w := by
  refine ⟨fun hw => ?_, fun below above hl hw => ?_⟩
  · rw [h, layerByte, List.idxOf?_eq_none_iff.2 hw]
    rfl
  · have position : l.idxOf? w = some below.length := by
      have absent : below.findIdx? (· == w) = none :=
        List.findIdx?_eq_none_iff.2 fun x hx => by simpa using fun e : x = w => hw (e ▸ hx)
      simp [hl, List.idxOf?, List.findIdx?_append, List.findIdx?_cons, absent]
    rw [h, layerByte, position]
    exact byte_toNat _

/-- Window Query (Table 5.5). -/
theorem windowReported (s : State) (w : Nat) : WindowReported s w (windowQueryData w s) := by
  refine of_reads _ fun p length h => ?_
  simp only [windowQueryData, List.append_assoc, List.cons_append, List.nil_append, reads_append, reads_cons,
    WindowConfig.length_bytes, Shown.length_bytes, TransState.length_bytes, length_word, byte_toNat, flag_toNat,
    Nat.reduceAdd] at h
  obtain ⟨bound, staged, live, shown, trans, position, remaining, frozen, pin, layers⟩ := h
  refine ⟨?_, optionAt_of bound, reads_copy staged, reads_copy live, reads_shown shown, fun ht => ?_, fun r next ht => ?_,
    fun k n old new ht => ?_, ⟨position, reads_word remaining⟩, frozen, optionAt_of pin, fun hb => ?_, fun k hb => ?_⟩
  · rw [length]
    cases hb : (s.window w).binding <;> simp [windowQueryData, hb]
  · simp only [ht, TransState.bytes, reads_cons, Nat.reduceAdd] at trans
    obtain ⟨state, progress, duration, old, oldIndex, new, newIndex, -⟩ := trans
    refine ⟨state, progress, duration, fun j h1 h2 => ?_⟩
    obtain rfl | rfl | rfl | rfl : j = 118 ∨ j = 119 ∨ j = 120 ∨ j = 121 := by omega
    exacts [old, oldIndex, new, newIndex]
  · simp only [ht, TransState.bytes, List.cons_append, List.nil_append, reads_cons, byte_toNat, Nat.reduceAdd] at trans
    obtain ⟨state, progress, duration, old, oldIndex, new⟩ := trans
    exact ⟨state, progress, duration, old, oldIndex, reads_shown new⟩
  · simp only [ht, TransState.bytes, List.cons_append, List.nil_append, reads_append, reads_cons, Shown.length_bytes,
      byte_toNat, Nat.reduceAdd] at trans
    obtain ⟨state, progress, duration, before, after⟩ := trans
    exact ⟨state, progress, duration, reads_shown before, reads_shown after⟩
  · rw [hb, reads_pair] at layers
    exact layers
  · rw [hb, reads_pair] at layers
    exact ⟨layerAt_of layers.1, layerAt_of layers.2⟩

/-- The displayed scenes are those of R141. -/
theorem displayed_iff (s : State) (k : Nat) : s.displayed k = true ↔ ∃ n, n < 12 ∧
    ((((s.port n).state = .normal ∨ (s.port n).state = .resuming) ∧ (s.port n).assigned = some k)
      ∨ ((s.port n).state = .protected_ ∧ (s.port n).action = .scene ∧ (s.port n).index = k)) := by
  have displays : ∀ x : Port, x.displays = some k ↔
      ((x.state = .normal ∨ x.state = .resuming) ∧ x.assigned = some k)
        ∨ (x.state = .protected_ ∧ x.action = .scene ∧ x.index = k) := by
    intro x
    unfold Port.displays
    cases x.state <;> simp
  rw [State.displayed, toList_look s.ports Port.reset, List.any_map, List.any_eq_true]
  simp only [List.mem_range, Function.comp_apply, beq_iff_eq, displays]
  rfl

/-- Scene Query (Table 5.6). -/
theorem sceneReported (s : State) (k : Nat) : SceneReported s k (sceneQueryData k s) := by
  refine of_reads _ fun p length h => ?_
  simp only [sceneQueryData, List.append_assoc, List.cons_append, List.nil_append, reads_append, reads_cons,
    length_colourBytes, length_listBytes, byte_toNat, flag_toNat, Nat.reduceAdd] at h
  obtain ⟨stagedColour, stagedCount, staged, liveColour, liveCount, live, pending, displayed, boundCount, bound⟩ := h
  refine ⟨?_, ⟨reads_colour stagedColour, stagedCount, reads_list staged⟩,
    ⟨reads_colour liveColour, liveCount, reads_list live⟩, pending, ?_, boundCount, reads_list bound⟩
  · simp [length, sceneQueryData]
  · rw [← displayed_iff, displayed]
    cases s.displayed k <;> simp

/-- How many places of a bank of options hold something. -/
theorem presentCount_bank {m : Nat} (v : Vector (Option Nat) m) :
    presentCount v.toList = ((List.range m).filter fun i => (look v i none).isSome).length := by
  rw [presentCount, toList_look v none, List.filter_map, List.length_map]
  rfl

/-- The bytes of one ring (Table 2.6). -/
def ringBytes (r : Ring) : List Byte := byte r.slots.length :: listBytes 8 r.slots

theorem length_ringBytes (r : Ring) : (ringBytes r).length = 9 := by simp [ringBytes]

/-- Store Query VIEW 0 (Table 2.6). -/
theorem storeReported (s : State) : StoreReported s (storeSummary s) := by
  refine of_reads _ fun p length h => ?_
  have rings : (s.rings.toList.flatMap ringBytes).length = 144 := by
    rw [List.length_flatMap]
    simp [length_ringBytes]
  have data : storeSummary s = byte s.freeSlots.length ::
      byte ((s.rings.toList.map fun r => r.slots.length).sum) :: byte (presentCount s.stills.toList) ::
      byte s.retiringSlots.length :: byte (presentCount s.reservations.toList) ::
      (s.rings.toList.flatMap ringBytes ++ s.stills.toList.map optByte) := by
    simp only [storeSummary, List.cons_append, List.nil_append]
    rfl
  simp only [data, reads_append, reads_cons, rings, byte_toNat, Nat.reduceAdd] at h
  obtain ⟨free, ring, still, retiring, reserved, ringList, stillList⟩ := h
  refine ⟨?_, free, ?_, ?_, retiring, ?_, fun i hi => ?_, fun e he => ?_⟩
  · simp [length, data, rings]
  · rw [ring, toList_look s.rings Ring.reset, List.map_map]
    rfl
  · rw [still, presentCount_bank]
    rfl
  · rw [reserved, presentCount_bank]
    rfl
  · have place : s.rings.toList[i]? = some (s.ring i) := by
      rw [toList_look s.rings Ring.reset]
      simp [hi]
      rfl
    have block := reads_flatMap length_ringBytes ringList place
    rw [ringBytes, reads_cons, byte_toNat] at block
    refine ⟨block.1, ?_⟩
    have list := reads_list block.2
    rwa [Nat.add_right_comm] at list
  · have place : s.stills.toList[e]? = some (s.still e) := by
      rw [toList_look s.stills none]
      simp [he]
      rfl
    exact optionAt_of (reads_map stillList place)

theorem length_positionBytes (s : State) (o : Option Nat) : (positionBytes s o).length = 6 := by
  cases o <;> rfl

/-- Store Query VIEW 1 (Tables 2.7 and 2.8). -/
theorem ringReported (s : State) (i : Nat) : RingReported s i (storeDetail i s) := by
  refine of_reads _ fun p length h => ?_
  have positions : ((List.range 8).flatMap fun k => positionBytes s (s.ring i).slots[k]?).length = 48 := by
    rw [List.length_flatMap]
    simp [length_positionBytes]
  simp only [storeDetail, List.append_assoc, List.cons_append, List.nil_append, reads_append, reads_cons, positions,
    length_listBytes, byte_toNat, Nat.reduceAdd] at h
  obtain ⟨slots, table, age, ageList, reservation, -⟩ := h
  have position {j : Nat} (hj : j < 8) : Reads p (1 + 6 * j) (positionBytes s (s.ring i).slots[j]?) :=
    reads_flatMap (fun k => length_positionBytes s _) table (x := j) (by simp [hj])
  refine ⟨?_, slots, fun j hj hl => ?_, fun j n hj hn => ?_, ⟨age, reads_list ageList⟩, optionAt_of reservation⟩
  · simp [length, storeDetail, positions]
  · have empty := position hj
    rw [List.getElem?_eq_none hl, positionBytes, reads_cons] at empty
    refine ⟨empty.1, fun d h1 h5 => ?_⟩
    obtain ⟨c, rfl⟩ := Nat.exists_eq_add_of_le h1
    rw [← Nat.add_assoc]
    exact reads_replicate (m := 5) empty.2 (by omega)
  · have taken := position hj
    simp only [hn, positionBytes, List.cons_append, List.nil_append, reads_cons, byte_toNat] at taken
    obtain ⟨number, state, claims, pin, sequence⟩ := taken
    simp only [Nat.add_right_comm _ (6 * j), Nat.reduceAdd] at state claims pin sequence
    refine ⟨number, ?_, claims, optionAt_of pin, reads_word sequence⟩
    refine state.trans ?_
    cases (s.slot n).state <;> rfl

/-! #### The queries as commands -/

/-- Settles O31: each query is answered at once with its data, and each data list reads as its table says. -/
theorem queriesAnswerDone : Obligations.QueriesAnswerDone := by
  refine ⟨fun tag s h => ⟨fun i hi => ⟨?_, ?_⟩, fun i hi => ⟨?_, ?_⟩, fun w hw => ?_, fun k hk => ?_, fun n hn => ?_,
    ?_, ?_⟩, fun s i w k n => ⟨inputReported s i, storeReported s, ringReported s i, windowReported s w, sceneReported s k,
      portReported s n, deviceReported s⟩⟩
  · exact request_answeredData h (by rw [requestInputQuery, if_pos (by simp [hi])]; rfl)
  · refine (request_ready h _ _).trans ?_
    rw [requestInputQuery, if_pos (by simp [hi]), answerData_reserved]
    rfl
  · exact request_answeredData h (by rw [requestStoreQuery, if_pos (by simp [hi])]; rfl)
  · exact request_answeredData h (by rw [requestStoreQuery, if_pos (by simp [hi])]; rfl)
  · exact request_answeredData h (by rw [requestWindowQuery, if_pos hw]; rfl)
  · exact request_answeredData h (by rw [requestSceneQuery, if_pos hk]; rfl)
  · exact request_answeredData h (by rw [requestPortQuery, if_pos hn]; rfl)
  · exact request_answeredData h (by rw [requestDeviceQuery, if_pos (by simp)]; rfl)
  · refine (request_ready h _ _).trans ?_
    rw [requestDeviceQuery, if_pos (by simp), answerData_reserved]
    rfl

end Sys2Proof.Machine
end

section
/-! ### The writer and the reader (R42, R46 to R49) -/

namespace Sys2Proof.Machine

variable {s : State} {i n : Nat}

/-! #### The write slot (R42) -/

/-- What a search among the kept entries of a list finds is the first entry of the list that is kept and fits. -/
theorem find?_filter_eq_some_iff {l : List Nat} {q p : Nat → Bool} : (l.filter q).find? p = some n ↔
    n ∈ l.filter q ∧ p n = true ∧ ∃ before after, l = before ++ n :: after
      ∧ ∀ m ∈ before, m ∈ l.filter q → ¬p m = true := by
  simp only [List.find?_filter, List.find?_eq_some_iff_append, List.mem_filter]
  constructor
  · rintro ⟨hn, before, after, rfl, hb⟩
    obtain ⟨hq, hp⟩ : q n = true ∧ p n = true := by simpa using hn
    exact ⟨⟨by simp, hq⟩, hp, before, after, rfl, fun m hm ⟨_, hqm⟩ => by simpa [hqm] using hb m hm⟩
  · rintro ⟨⟨-, hq⟩, hp, before, after, rfl, hb⟩
    refine ⟨by simp [hq, hp], before, after, rfl, fun m hm => ?_⟩
    cases hqm : q m with
    | false => rfl
    | true => simpa using hb m hm ⟨List.mem_append_left _ hm, hqm⟩

/-- The slot is EMPTY or STALE: it is written before any that holds a frame (R42). -/
def State.unused (s : State) (n : Nat) : Bool := (s.slot n).state == .empty || (s.slot n).state == .stale

theorem unused_iff : s.unused n = true ↔ (s.slot n).state = .empty ∨ (s.slot n).state = .stale := by
  simp [State.unused]

/-- The write slot is the first unused candidate in ring position order; where no candidate is unused, it is the one
nearest the tail of the age list (R42). -/
theorem writeSlot_eq_some_iff : s.writeSlot i = some n ↔ n ∈ s.writeCandidates i ∧
    ((s.unused n = true ∧ ∃ before after, (s.ring i).slots = before ++ n :: after
        ∧ ∀ m ∈ before, m ∈ s.writeCandidates i → ¬s.unused m = true)
      ∨ ((∀ m ∈ s.writeCandidates i, ¬s.unused m = true)
        ∧ ∃ newer older, (s.ring i).age = newer ++ n :: older ∧ ∀ m ∈ older, m ∉ s.writeCandidates i)) := by
  cases h : (s.writeCandidates i).find? s.unused with
  | some m =>
    rw [writeSlot_unused h, ← h]
    refine find?_filter_eq_some_iff.trans ?_
    obtain ⟨hm, hu, -⟩ := find?_filter_eq_some_iff.1 h
    constructor
    · rintro ⟨hn, hp, hf⟩
      exact ⟨hn, .inl ⟨hp, hf⟩⟩
    · rintro ⟨hn, ⟨hp, hf⟩ | ⟨hf, -⟩⟩
      · exact ⟨hn, hp, hf⟩
      · exact absurd hu (hf m hm)
  | none =>
    have none : ∀ m ∈ s.writeCandidates i, ¬s.unused m = true := List.find?_eq_none.1 h
    rw [writeSlot_oldest fun m hm => not_or.1 fun h => none m hm (unused_iff.2 h), List.find?_eq_some_iff_append]
    constructor
    · rintro ⟨hn, older, newer, ha, ho⟩
      refine ⟨by simpa using hn, .inr ⟨none, newer.reverse, older.reverse, ?_, by simpa using ho⟩⟩
      rw [← List.reverse_reverse (s.ring i).age, ha]
      simp
    · rintro ⟨hn, ⟨hu, -⟩ | ⟨-, newer, older, ha, ho⟩⟩
      · exact absurd hu (none n hn)
      · exact ⟨by simpa using hn, older.reverse, newer.reverse, by simp [ha], by simpa using ho⟩

/-- Settles O18: the write slot by `writeSlot_eq_some_iff`, read against the candidates of R42. -/
theorem writerChoosesByRingThenAge : Obligations.WriterChoosesByRingThenAge := by
  unfold Obligations.WriterChoosesByRingThenAge
  intro i s candidate unused
  have hc : ∀ m, m ∈ s.writeCandidates i ↔ candidate m := fun m => mem_writeCandidates
  have hu : ∀ m, s.unused m = true ↔ unused m := fun m => unused_iff
  have spec := fun n => writeSlot_eq_some_iff (s := s) (i := i) (n := n)
  simp only [hc, hu] at spec
  refine ⟨fun n before after hr hn hun hb => ?_, fun n newer older ha hn hnone ho => ?_, fun hnone ha => ?_,
    fun n => (spec n).1⟩
  · exact (spec n).2 ⟨hn, .inl ⟨hun, before, after, hr, hb⟩⟩
  · exact (spec n).2 ⟨hn, .inr ⟨hnone, newer, older, ha, ho⟩⟩
  · refine Option.eq_none_iff_forall_ne_some.2 fun n hn => ?_
    obtain ⟨hcn, ⟨hun, -⟩ | ⟨-, newer, older, hage, -⟩⟩ := (spec n).1 hn
    · exact hnone n hcn hun
    · exact ha n (by simp [hage]) hcn

/-! #### The choice of the reader (R46 to R49) -/

/-- LOCKED and SUSPECT are the states that supply frames (R46). -/
theorem able_iff : s.able i = true ↔ (s.input i).state = .locked ∨ (s.input i).state = .suspect := by
  simp [State.able]

/-- The age list that a choice looks at: within a frame without the fresh entries (R49). -/
def Ring.readable (r : Ring) (withinFrame : Bool) : List Nat := if withinFrame then r.age.drop r.fresh else r.age

variable {delay : Nat} {b : Bool}

/-- The slot at a rank of an age list. -/
theorem age_at_rank {age newer older : List Nat} {rank : Nat} (hage : age = newer ++ n :: older)
    (hrank : newer.length = rank) : age[rank]? = some n := by
  subst hage hrank
  simp

/-- An able input gives the slot at the rank of the choice (R46). -/
theorem chooseInput_rank (ha : s.able i = true) {newer older : List Nat}
    (hage : (s.ring i).readable b = newer ++ n :: older)
    (hrank : newer.length = rankOf delay (s.unpinned i) ((s.ring i).readable b).length) :
    chooseInput i delay b s = .slot n := by
  have entry := age_at_rank hage hrank
  unfold Ring.readable at entry
  simp only [chooseInput, ha, if_true, entry]

/-- An input that is not able, or has no entry left, gives its substitute (R46, R47). -/
theorem chooseInput_substitute (h : s.able i = false ∨ (s.ring i).readable b = []) :
    chooseInput i delay b s = chooseSubstitute i s := by
  rcases h with h | h
  · simp [chooseInput, h]
  · unfold Ring.readable at h
    simp [chooseInput, h]

/-- Settles O19: the slot of the rank where the input is able and an entry is left, the substitute otherwise. -/
theorem readerRanksByDelay : Obligations.ReaderRanksByDelay := by
  unfold Obligations.ReaderRanksByDelay
  intro i delay b s age able
  refine ⟨fun ha newer n older hage hrank => chooseInput_rank (able_iff.2 ha) hage hrank, fun h => ?_, rfl,
    fun e n h => ?_, fun e h => ?_, rfl, rfl⟩
  · have sub : chooseInput i delay b s = chooseSubstitute i s :=
      chooseInput_substitute (h.imp_left fun ha => Bool.eq_false_iff.2 fun h => ha (able_iff.1 h))
    rw [sub]
    refine ⟨fun hk => ?_, fun hk => ?_, fun hk => ?_, fun hk n hn => ?_, fun hk hn => ?_⟩ <;>
      simp only [chooseSubstitute, hk]
    · rw [hn]
    · rw [hn]
  · simp only [chooseShown, h]
  · simp only [chooseShown, h]

end Sys2Proof.Machine
end

section
/-! ### Freeze orders carried out alone (R51, R53, R104, R107, R108) -/

namespace Sys2Proof.Machine

variable {s : State} {i n w : Nat}

/-! #### A window pin released (R53) -/

/-- The record of a slot that loses a pin, `left` being the lowest window that pins it still (R53). -/
def Slot.letGo (x : Slot) (left : Option Nat) : Slot :=
  { x with pinned := left, state := if left.isNone then .stale else x.state }

/-- A pin is released: its slot keeps the lowest window that still pins it, or becomes STALE; within a frame it gains a
claim (R53). -/
theorem releasePin_some (h : s.pin w = some n) (b : Bool) : releasePin w b s =
    let t := (s.setPin w none).setSlot n ((s.slot n).letGo ((s.setPin w none).lowestPinner n))
    if b then addClaim n t else t := by
  simp only [releasePin, h, Slot.letGo]
  cases (s.setPin w none).lowestPinner n <;> rfl

/-- A pin released and a window written touch different banks. -/
theorem releasePin_setWindow (w v : Nat) (b : Bool) (x : Window) (s : State) :
    releasePin w b (s.setWindow v x) = (releasePin w b s).setWindow v x := by
  cases h : s.pin w with
  | none => rw [releasePin_none h, releasePin_none (by exact h)]
  | some n =>
    rw [releasePin_some h, releasePin_some (s := s.setWindow v x) h]
    cases b <;> rfl

/-- The pins where that of `w` is gone. -/
theorem setPin_none_pin (w v : Nat) (s : State) : (s.setPin w none).pin v = if v = w then none else s.pin v := by
  split
  · subst v
    by_cases hw : w < 64
    · exact State.setPin_pin_same _ _ _ hw
    · exact pin_outside _ (Nat.le_of_not_lt hw)
  · exact State.setPin_pin_ne _ _ _ _ ‹_›

/-- No other window pins the slot that `w` lets go. -/
theorem lowestPinner_alone (h : ∀ v, v ≠ w → s.pin v ≠ some n) : (s.setPin w none).lowestPinner n = none := by
  refine lowestPinner_none fun v _ => ?_
  rw [setPin_none_pin]
  split
  · nofun
  · exact h v ‹_›

/-- The lowest of the other windows that pin the slot that `w` lets go. -/
theorem lowestPinner_shared {v : Nat} (hv : v ≠ w) (hp : s.pin v = some n)
    (hf : ∀ u, u < v → u ≠ w → s.pin u ≠ some n) : (s.setPin w none).lowestPinner n = some v := by
  refine lowestPinner_first (by rw [setPin_none_pin, if_neg hv, hp]) fun u hu => ?_
  rw [setPin_none_pin]
  split
  · nofun
  · exact hf u hu ‹_›

/-! #### Freeze orders (R107, R108) -/

/-- The window without its freeze order. -/
def Window.unordered (x : Window) : Window := { x with freezeOrder := .none }

/-- A freeze order OFF carried out: the window loses the order and, where it is frozen, freeze and pin (R108). -/
theorem carryOutFreeze_off (h : (s.window w).freezeOrder = .off) : carryOutFreeze s w =
    if (s.window w).frozen then unfreeze w false (s.setWindow w (s.window w).unordered)
    else s.setWindow w (s.window w).unordered := by
  simp only [carryOutFreeze, h, Window.unordered]

/-- A freeze order ON carried out: a window of a live list that is not frozen completes its transition and is frozen
(R104, R107). -/
theorem carryOutFreeze_on (h : (s.window w).freezeOrder = .on) : carryOutFreeze s w = s.setWindow w
    (if s.inLive w && !(s.window w).frozen then { (s.window w).unordered.complete with frozen := true }
      else (s.window w).unordered) := by
  simp only [carryOutFreeze, h, Window.unordered]

/-- A window just written is unfrozen: the freeze goes from what was written, and the pin is released. -/
theorem unfreeze_setWindow (hw : w < 64) (x : Window) (b : Bool) :
    unfreeze w b (s.setWindow w x) = (releasePin w b s).setWindow w { x with frozen := false } := by
  unfold unfreeze
  rw [State.setWindow_window_same _ _ _ hw, releasePin_setWindow, releasePin_setWindow]
  simp only [State.setWindow, put_put]

theorem exec_freezeOrderOff {w : Fin 64} (hr : s.resetLine = false) (ho : (s.window w.val).freezeOrder = .off) :
    exec (.freezeOrderOff w) s = .next (carryOutFreeze s w.val) := by
  refine (whenRunning_run hr).trans ?_
  rw [if_pos ho]

/-- Settles O40: the window is written and its pin released, with the lowest of the other pinners named or STALE. -/
theorem freezeOrderOffReleasesThePin : Obligations.FreezeOrderOffReleasesThePin := by
  unfold Obligations.FreezeOrderOffReleasesThePin
  intro w s hr ho x done
  rw [exec_freezeOrderOff hr ho, carryOutFreeze_off ho]
  have released : unfreeze w.val false (s.setWindow w.val x.unordered)
      = (releasePin w.val false s).setWindow w.val done := unfreeze_setWindow w.isLt _ false
  refine ⟨fun hf => ?_, fun hf hp => ?_, fun n hf hp hn => ⟨fun alone => ?_, fun v hv hpv first => ?_⟩⟩
  · rw [if_neg (Bool.eq_false_iff.1 hf)]
    rfl
  · rw [if_pos hf, released, releasePin_none hp]
    rfl
  · rw [if_pos hf, released, releasePin_some hp, lowestPinner_alone alone]
    rfl
  · rw [if_pos hf, released, releasePin_some hp, lowestPinner_shared hv hpv first]
    rfl

/-! #### The pin that a freeze makes (R51) -/

/-- The slot that a freeze pins, with the age list as it stands: that of the rank of the window's delay (R46, R51). -/
def State.pinSlot (s : State) (i delay : Nat) : Option Nat :=
  (s.ring i).age[rankOf delay (s.unpinned i) (s.ring i).age.length]?

/-- The part after the pin of window `w` on slot `n` of input `i` is made, with a claim and its record where the
window's scene is composed in the frame in progress (R51). -/
def State.withPin (s : State) (i n w : Nat) : State :=
  if s.inComposed w then addClaim n (recordChoice w (.input i) (.slot n) (makePin i n w s)) else makePin i n w s

/-- A frozen window on an input that is able gets its pin, but where that would leave fewer than three slots unpinned
(R51, R107). -/
theorem pinWindow_pins (hf : (s.window w).frozen = true) (hs : (s.window w).shown = .input i) (ha : s.able i = true)
    (hn : s.pinSlot i (s.window w).live.delay = some n) : pinWindow s.rings s w =
      if (s.slot n).pinned = none ∧ s.unpinned i < 4 then s.setWindow w { s.window w with frozen := false }
      else s.withPin i n w := by
  have age : (look s.rings i Ring.reset).age = (s.ring i).age := rfl
  have composed : (makePin i n w s).inComposed w = s.inComposed w := rfl
  unfold State.pinSlot at hn
  simp only [pinWindow, hf, hs, ha, if_true, age, hn, Bool.and_eq_true, Option.isNone_iff_eq_none, decide_eq_true_eq,
    State.withPin, composed]

/-- A window on no input, or on one that has no slot to pin, gets no pin (R51). -/
theorem pinWindow_flag (h : ∀ i, (s.window w).shown = .input i → s.able i = false ∨ (s.ring i).age = []) :
    pinWindow s.rings s w = s := by
  have age : ∀ i, look s.rings i Ring.reset = s.ring i := fun _ => rfl
  unfold pinWindow
  dsimp only
  split
  · rcases h _ ‹_› with ha | ha
    · rw [if_neg (Bool.eq_false_iff.1 ha)]
    · simp [age, ha]
  · rfl

/-- Where the slot is pinned already, or four are not, the pin is made (R51). -/
theorem pinWindow_made (hf : (s.window w).frozen = true) (hs : (s.window w).shown = .input i) (ha : s.able i = true)
    (hn : s.pinSlot i (s.window w).live.delay = some n)
    (hroom : (s.slot n).pinned.isSome = true ∨ 4 ≤ s.unpinned i) : pinWindow s.rings s w = s.withPin i n w := by
  rw [pinWindow_pins hf hs ha hn, if_neg]
  rintro ⟨hp, hfew⟩
  rcases hroom with h | h
  · rw [hp] at h
    cases h
  · exact absurd hfew (Nat.not_lt.2 h)

/-- What a pin writes beside its slot and the claim record: the window's pin and the age list (R51). -/
theorem withPin_eq (i n w : Nat) (s : State) : s.withPin i n w = { s with
    pins := put s.pins w (some n)
    rings := put s.rings i ((s.ring i).leave n)
    slots := (s.withPin i n w).slots
    comp := (s.withPin i n w).comp } := by
  unfold State.withPin
  split <;> rfl

theorem withPin_comp (i n w : Nat) (s : State) : (s.withPin i n w).comp =
    if s.inComposed w then { s.comp with
      record := (s.comp.record.filter fun e => !e.isOf w (.input i)) ++ [⟨w, .input i, .slot n⟩] }
    else s.comp := by
  unfold State.withPin
  split <;> rfl

/-- What a pin leaves of its slot: the state, the lowest window that pins it, and one claim more if it is claimed. -/
theorem withPin_slot_same (hn : n < 96) : (s.withPin i n w).slot n = { s.slot n with
    pinned := (s.setPin w (some n)).lowestPinner n
    claims := if s.inComposed w then min ((s.slot n).claims + 1) 32 else (s.slot n).claims } := by
  have made : (makePin i n w s).slot n = { s.slot n with pinned := (s.setPin w (some n)).lowestPinner n } :=
    look_put_same _ _ _ hn
  unfold State.withPin
  split
  · rw [addClaim_slot _ _ hn, if_pos rfl]
    show ({ (makePin i n w s).slot n with claims := min (((makePin i n w s).slot n).claims + 1) 32 } : Slot) = _
    rw [made]
  · exact made

theorem withPin_slot_ne {m : Nat} (hn : n < 96) (hm : m ≠ n) : (s.withPin i n w).slot m = s.slot m := by
  have made : (makePin i n w s).slot m = s.slot m := look_put_ne _ _ _ hm
  unfold State.withPin
  split
  · rw [addClaim_slot _ _ hn, if_neg hm]
    exact made
  · exact made

/-- A slot that a window pins names the lowest-numbered one (Table 3.1, note 2). -/
theorem lowestPinner_spec (h : s.pin w = some n) :
    ∃ v, s.lowestPinner n = some v ∧ s.pin v = some n ∧ ∀ u, u < v → s.pin u ≠ some n := by
  obtain ⟨v, hv⟩ := Option.isSome_iff_exists.1 (lowestPinner_isSome h)
  have range : windowNumbers = List.range 64 := rfl
  have spec := hv
  rw [State.lowestPinner, range, List.find?_range_eq_some] at spec
  obtain ⟨hp, -, hf⟩ := spec
  exact ⟨v, hv, by simpa using hp, fun u hu => by simpa using hf u hu⟩

/-- The window as a freeze leaves it (R104, R107). -/
def Window.freezes (x : Window) : Window := { x.unordered.complete with frozen := true }

/-- An order ON that finds nothing to freeze goes (R107). -/
theorem exec_freezeOrderOn_idle {w : Fin 64} (hr : s.resetLine = false) (ho : (s.window w.val).freezeOrder = .on)
    (h : (s.window w.val).frozen = true ∨ s.inLive w.val = false) :
    exec (.freezeOrderOn w) s = .next (s.setWindow w.val (s.window w.val).unordered) := by
  have idle : (s.inLive w.val && !(s.window w.val).frozen) = false := by rcases h with h | h <;> simp [h]
  refine (whenRunning_run hr).trans ?_
  simp [carryOutFreeze_on ho, ho, idle]

/-- An order ON freezes a window of a live list, and its pin is made (R51, R107). -/
theorem exec_freezeOrderOn {w : Fin 64} (hr : s.resetLine = false) (ho : (s.window w.val).freezeOrder = .on)
    (hf : (s.window w.val).frozen = false) (hl : s.inLive w.val = true) : exec (.freezeOrderOn w) s =
      .next (pinWindow s.rings (s.setWindow w.val (s.window w.val).freezes) w.val) := by
  refine (whenRunning_run hr).trans ?_
  simp [carryOutFreeze_on ho, ho, hf, hl, Window.freezes]

/-- Settles O39: the window freezes, and `pinWindow` then finds no slot, withholds the pin, or makes it. -/
theorem freezeOrderOnFreezesAndPins : Obligations.FreezeOrderOnFreezesAndPins := by
  unfold Obligations.FreezeOrderOnFreezesAndPins
  intro w s hr ho x done
  refine ⟨exec_freezeOrderOn_idle hr ho, fun hf hl => ?_⟩
  rw [exec_freezeOrderOn hr ho hf hl]
  let u := s.setWindow w.val done
  have window : u.window w.val = done := State.setWindow_window_same _ _ _ w.isLt
  refine ⟨fun h => congrArg _ (pinWindow_flag (s := u) fun i hi => h i (by rwa [window] at hi)),
    fun i newer n older hx ha hage hrank => ?_⟩
  have slot : u.pinSlot i (u.window w.val).live.delay = some n := by
    rw [window]
    exact age_at_rank hage hrank
  have frozen : (u.window w.val).frozen = true := by rw [window]
  have shown : (u.window w.val).shown = .input i := by rw [window]; exact hx
  refine ⟨fun hp hfew => ?_, fun hn hi hroom => ?_⟩
  · refine congrArg _ ((pinWindow_pins frozen shown ha slot).trans ?_)
    rw [if_pos ⟨hp, hfew⟩, window]
    simp only [u, State.setWindow, put_put]
  · have pins := pinWindow_made frozen shown ha slot hroom
    have pin : (u.setPin w.val (some n)).pin w.val = some n := State.setPin_pin_same _ _ _ w.isLt
    obtain ⟨v, hv, hpv, hfirst⟩ := lowestPinner_spec pin
    have same := withPin_slot_same (s := u) (i := i) (w := w.val) hn
    have comp := withPin_comp i n w.val u
    have composed : u.inComposed w.val = s.inComposed w.val := by
      simp only [State.inComposed, window]
      rfl
    refine ⟨u.withPin i n w.val, congrArg _ pins, withPin_eq i n w.val u, by rw [same]; rfl,
      ⟨v, by rw [same]; exact hv, ?_, ?_⟩, fun m hm => withPin_slot_ne hn hm, fun hc => ?_, fun hc => ?_⟩
    · rw [withPin_eq]; exact hpv
    · rw [withPin_eq]; exact hfirst
    · rw [same, comp, composed, hc]
      exact ⟨rfl, rfl⟩
    · rw [same, comp, composed, hc]
      exact ⟨rfl, rfl⟩

end Sys2Proof.Machine
end

section
/-! ### Takes applied to a scene (R98, R99, R105, R109) -/

namespace Sys2Proof.Machine

variable {s t u : State} {k w n f : Nat} {b : Bool}

/-! #### Pins released one after another (R53) -/

variable {p q : Nat → Prop}

/-- Nothing released. -/
theorem PinsReleased.refl (h : ∀ w, ¬p w) (s : State) : PinsReleased p s s where
  gone w hw := absurd hw (h w)
  kept _ _ := rfl
  stale w _ _ hw := absurd hw (h w)
  shared w _ _ _ hw := absurd hw (h w)
  others _ _ := ⟨rfl, rfl⟩

/-- The released windows may be named in other words, and of the part only the pins count, with the states of the slots
and the pins they name. -/
theorem PinsReleased.congr {s' t' : State} (h : PinsReleased p s t) (hpq : ∀ w, p w ↔ q w)
    (hp : ∀ w, s'.pin w = s.pin w)
    (hs : ∀ n, (s'.slot n).pinned = (s.slot n).pinned ∧ (s'.slot n).state = (s.slot n).state)
    (hp' : ∀ w, t'.pin w = t.pin w)
    (hs' : ∀ n, (t'.slot n).pinned = (t.slot n).pinned ∧ (t'.slot n).state = (t.slot n).state) :
    PinsReleased q s' t' := by
  obtain rfl : p = q := funext fun w => propext (hpq w)
  constructor <;> simp only [hp, hp', hs, hs']
  exacts [h.gone, h.kept, h.stale, h.shared, h.others]

/-- The same for pins and slots that are the same. -/
theorem PinsReleased.of_banks {s' t' : State} (h : PinsReleased p s t) (hpq : ∀ w, p w ↔ q w) (hp : s'.pins = s.pins)
    (hs : s'.slots = s.slots) (hp' : t'.pins = t.pins) (hs' : t'.slots = t.slots) : PinsReleased q s' t' :=
  h.congr hpq (fun w => congrArg (look · w none) hp)
    (fun n => by simp only [State.slot, hs, and_self]) (fun w => congrArg (look · w none) hp')
    (fun n => by simp only [State.slot, hs', and_self])

/-- Pins released in two steps are released (R53). -/
theorem PinsReleased.trans (h : PinsReleased p s u) (h' : PinsReleased q u t) :
    PinsReleased (fun w => p w ∨ q w) s t := by
  have left : ∀ v n, t.pin v = some n → u.pin v = some n := fun v n hv => by
    by_cases hq : q v
    · rw [h'.gone v hq] at hv; cases hv
    · rw [← hv, h'.kept v hq]
  have first : ∀ v n, u.pin v = some n → s.pin v = some n := fun v n hv => by
    by_cases hp : p v
    · rw [h.gone v hp] at hv; cases hv
    · rw [← hv, h.kept v hp]
  have still : ∀ v n, u.pin v = some n → ¬q v → t.pin v = some n := fun v n hv hq => by rw [h'.kept v hq, hv]
  have release : ∀ w n, p w ∨ q w → s.pin w = some n → (∀ v, q v → u.pin v ≠ some n) → p w := fun w n hw hs hno => by
    by_contra hp
    exact hno w (hw.resolve_left hp) (by rw [h.kept w hp, hs])
  constructor
  · intro w hw
    by_cases hq : q w
    · exact h'.gone w hq
    · rw [h'.kept w hq, h.gone w (hw.resolve_right hq)]
  · intro w hw
    rw [h'.kept w fun hq => hw (.inr hq), h.kept w fun hp => hw (.inl hp)]
  · intro w n hn hw hs hno
    by_cases hlast : ∃ v, q v ∧ u.pin v = some n
    · obtain ⟨v, hq, hv⟩ := hlast
      exact h'.stale v n hn hq hv hno
    · have hnone : ∀ v, q v → u.pin v ≠ some n := fun v hq hv => hlast ⟨v, hq, hv⟩
      obtain ⟨hpin, hstate⟩ := h'.others n hnone
      obtain ⟨hpin', hstate'⟩ := h.stale w n hn (release w n hw hs hnone) hs fun v hv =>
        hno v (still v n hv fun hq => hnone v hq hv)
      exact ⟨hpin.trans hpin', hstate.trans hstate'⟩
  · intro w n v hn hw hs hv hfirst
    by_cases hlast : ∃ v, q v ∧ u.pin v = some n
    · obtain ⟨x, hq, hx⟩ := hlast
      obtain ⟨hpin, hstate⟩ := h'.shared x n v hn hq hx hv hfirst
      refine ⟨hpin, hstate.trans ?_⟩
      by_cases hany : ∃ y, p y ∧ s.pin y = some n
      · obtain ⟨y, hp, hy⟩ := hany
        have some : ∃ z, u.pin z = Option.some n := ⟨v, left v n hv⟩
        exact (h.shared y n (Nat.find some) hn hp hy (Nat.find_spec some) fun z hz => Nat.find_min some hz).2
      · exact (h.others n fun y hp hy => hany ⟨y, hp, hy⟩).2
    · have hnone : ∀ v, q v → u.pin v ≠ some n := fun v hq hv => hlast ⟨v, hq, hv⟩
      obtain ⟨hpin, hstate⟩ := h'.others n hnone
      obtain ⟨hpin', hstate'⟩ := h.shared w n v hn (release w n hw hs hnone) hs (left v n hv) fun z hz hzu =>
        hfirst z hz (still z n hzu fun hq => hnone z hq hzu)
      exact ⟨hpin.trans hpin', hstate.trans hstate'⟩
  · intro n hno
    obtain ⟨hpin, hstate⟩ := h'.others n fun v hq hv => hno v (.inr hq) (first v n hv)
    obtain ⟨hpin', hstate'⟩ := h.others n fun v hp hv => hno v (.inl hp) hv
    exact ⟨hpin.trans hpin', hstate.trans hstate'⟩

/-- The slot of a released pin keeps the lowest window that still pins it, or becomes STALE; within a frame it gains a
claim (R53). -/
theorem releasePin_slot_own (h : s.pin w = some n) (hn : n < 96) (b : Bool) : (releasePin w b s).slot n =
    { (s.slot n).letGo ((s.setPin w none).lowestPinner n) with
      claims := if b then min ((s.slot n).claims + 1) 32 else (s.slot n).claims } := by
  have set := State.setSlot_slot_same (s.setPin w none) n ((s.slot n).letGo ((s.setPin w none).lowestPinner n)) hn
  rw [releasePin_some h]
  cases b with
  | false => exact set
  | true =>
    refine (addClaim_slot n n hn _).trans ?_
    rw [if_pos rfl, set]
    rfl

/-- Every other slot is as it was (R53). -/
theorem releasePin_slot_other (h : s.pin w ≠ some n) (b : Bool) : (releasePin w b s).slot n = s.slot n := by
  cases hp : s.pin w with
  | none => rw [releasePin_none hp]
  | some m =>
    have hm : n ≠ m := fun e => h (e ▸ hp)
    have set : ∀ x, ((s.setPin w none).setSlot m x).slot n = s.slot n := fun x => State.setSlot_slot_ne _ _ _ _ hm
    rw [releasePin_some hp]
    cases b with
    | false => exact set _
    | true => exact (State.setSlot_slot_ne _ _ _ _ hm).trans (set _)

theorem releasePin_pin (w v : Nat) (b : Bool) (s : State) :
    (releasePin w b s).pin v = if v = w then none else s.pin v := by
  rw [← setPin_none_pin]
  exact congrArg (look · v none) (releasePin_pins w b s)

/-- One window pin released (R53). -/
theorem releasePin_released (w : Nat) (b : Bool) (s : State) : PinsReleased (· = w) s (releasePin w b s) := by
  constructor
  · rintro _ rfl
    rw [releasePin_pin, if_pos rfl]
  · intro v hv
    rw [releasePin_pin, if_neg hv]
  · rintro _ n hn rfl h hno
    have alone : (s.setPin _ none).lowestPinner n = none := lowestPinner_none fun v _ => by
      rw [setPin_none_pin, ← releasePin_pin]
      exact hno v
    rw [releasePin_slot_own h hn, alone]
    exact ⟨rfl, rfl⟩
  · rintro _ n v hn rfl h hv hfirst
    have lowest : (s.setPin _ none).lowestPinner n = some v :=
      lowestPinner_first (by rw [setPin_none_pin, ← releasePin_pin, hv]) fun z hz => by
        rw [setPin_none_pin, ← releasePin_pin]
        exact hfirst z hz
    rw [releasePin_slot_own h hn, lowest]
    exact ⟨rfl, rfl⟩
  · intro n hno
    rw [releasePin_slot_other (hno w rfl)]
    exact ⟨rfl, rfl⟩

/-- At a boundary a released pin leaves no claim: the slot changes its state and its pin only (R53). -/
theorem releasePin_slot_kept (w n : Nat) (s : State) : (releasePin w false s).slot n =
    { s.slot n with
      state := ((releasePin w false s).slot n).state, pinned := ((releasePin w false s).slot n).pinned } := by
  by_cases h : s.pin w = some n
  · by_cases hn : n < 96
    · rw [releasePin_slot_own h hn]
      rfl
    · rw [slot_outside _ (Nat.le_of_not_lt hn), slot_outside _ (Nat.le_of_not_lt hn)]
  · rw [releasePin_slot_other h]

/-! #### The window that a take leaves (R98, R99, R105, R109) -/

/-- The tour of a window in both lists after a take, `old` being its former configuration and `x` the window with the
new one: it starts over, goes on, or there is none (R99, R109). -/
def Window.takenTour (f : Nat) (old : WindowConfig) (x : Window) : Window :=
  if x.live.source = .tour then (if startsOver old x then x.startTour f else x) else x.noTour

/-- The source that a take makes the target of a window in both lists (R99). -/
def Window.takenTarget (old : WindowConfig) (x : Window) : Shown :=
  if x.live.source = .tour && !startsOver old x then x.target else x.liveTarget

/-- A window in both lists after a take: with its target kept only a tour that starts over unfreezes it; a new target is
reached through the live transition (R99, R105). -/
def Window.takenBoth (f : Nat) (old : WindowConfig) (x : Window) : Window :=
  if x.takenTarget old = x.target then
    (if startsOver old x then { x.takenTour f old with frozen := false } else x.takenTour f old)
  else { x.takenTour f old with frozen := false }.complete.start (x.takenTarget old)

/-- The window after a take of its scene: `was` and `will` say whether the old and the new live list hold it (R98). -/
def Window.taken (x : Window) (was will : Bool) (f : Nat) : Window :=
  let y := { x with live := x.staged }
  match was, will with
  | false, true =>
    let z := { y with trans := .none, frozen := false, shown := y.liveTarget }
    if y.live.source = .tour then z.startTour f else z.noTour
  | true, false => { y.complete.noTour with freezeOrder := .none, frozen := false }
  | false, false => { y.noTour with shown := y.liveTarget }
  | true, true => y.takenBoth f x.live

/-- A take releases the pin of a window that it unfreezes: one that stood in the live list (R98, R99, R105). -/
def Window.letsGo (x : Window) (was will : Bool) (f : Nat) : Bool := was && x.frozen && !(x.taken was will f).frozen

@[simp] theorem Window.start_frozen (x : Window) (target : Shown) : (x.start target).frozen = x.frozen := by
  unfold Window.start
  split <;> rfl

/-- The record of a window that is not frozen does not change where it is unfrozen. -/
theorem Window.unfrozen_eq {x : Window} (h : x.frozen = false) : { x with frozen := false } = x := by
  rw [← h]

theorem setWindow_setWindow (w : Nat) (x y : Window) (s : State) :
    (s.setWindow w x).setWindow w y = s.setWindow w y := by
  simp only [State.setWindow, put_put]

/-- The window of one list only, old (R98 (2)). -/
theorem takeLeaving_eq (hw : w < 64) (b : Bool) (x : Window) (s : State) : takeLeaving w b x s =
    (if x.frozen then releasePin w b s else s).setWindow w
      { x.complete.noTour with freezeOrder := .none, frozen := false } := by
  unfold takeLeaving
  cases hf : x.frozen with
  | true =>
    simp only [if_true]
    rw [unfreeze_setWindow hw]
  | false =>
    simp only [Bool.false_eq_true, if_false]
    rw [Window.unfrozen_eq (x := { x.complete.noTour with freezeOrder := .none }) hf]

@[simp] theorem Window.takenTour_frozen (f : Nat) (old : WindowConfig) (x : Window) :
    (x.takenTour f old).frozen = x.frozen := by
  unfold Window.takenTour
  split
  · split <;> rfl
  · rfl

/-- The window of both lists (R99, R105). -/
theorem takeBoth_eq (hw : w < 64) (f : Nat) (b : Bool) (old : WindowConfig) (x : Window) (s : State) :
    takeBoth w f b old x s =
      (if x.frozen && !(x.takenBoth f old).frozen then releasePin w b s else s).setWindow w (x.takenBoth f old) := by
  have frozen := Window.takenTour_frozen f old x
  have model : takeBoth w f b old x s =
      if x.takenTarget old = x.target then
        if startsOver old x && x.frozen then unfreeze w b (s.setWindow w (x.takenTour f old))
        else s.setWindow w (x.takenTour f old)
      else (if x.frozen then unfreeze w b (s.setWindow w (x.takenTour f old)) else s).setWindow w
        ({ x.takenTour f old with frozen := false }.complete.start (x.takenTarget old)) := rfl
  rw [model]
  unfold Window.takenBoth
  generalize x.takenTour f old = y at frozen
  have free := fun h : x.frozen = false => Window.unfrozen_eq (frozen.trans h)
  split
  · cases startsOver old x <;> cases hf : x.frozen <;> simp [hf, frozen, unfreeze_setWindow hw, free]
  · cases hf : x.frozen <;> simp [Window.complete, unfreeze_setWindow hw, setWindow_setWindow]

theorem Window.letsGo_iff {x : Window} {was will : Bool} : x.letsGo was will f = true ↔
    was = true ∧ x.frozen = true ∧ (x.taken was will f).frozen = false := by
  simp [Window.letsGo, and_assoc]

/-- A take leaves of one window what `Window.taken` says, and releases its pin where `Window.letsGo` says so (R98). -/
theorem takeWindow_eq (hw : w < 64) (old new : List Nat) (f : Nat) (b : Bool) (s : State) :
    takeWindow old new f b s w =
      (if (s.window w).letsGo (old.contains w) (new.contains w) f then releasePin w b s else s).setWindow w
        ((s.window w).taken (old.contains w) (new.contains w) f) := by
  unfold takeWindow Window.letsGo
  dsimp only
  cases old.contains w <;> cases new.contains w
  · rfl
  · rfl
  · refine (takeLeaving_eq hw b _ s).trans ?_
    simp [Window.taken]
  · exact takeBoth_eq hw f b _ _ s

/-! #### What it leaves, field by field -/

section
variable (x : Window) (old : WindowConfig) (f : Nat)

/-- A transition that starts writes the shown source and the transition state only (R99, R102, R103). -/
theorem Window.start_eq (target : Shown) : x.start target =
    { x with shown := (x.start target).shown, trans := (x.start target).trans } := by
  unfold Window.start
  split <;> rfl

/-- A take writes the tour in its three fields (R109). -/
theorem Window.takenTour_eq : x.takenTour f old = { x with
    tourPosition := (x.takenTour f old).tourPosition
    tourRemaining := (x.takenTour f old).tourRemaining
    tourPeriod := (x.takenTour f old).tourPeriod } := by
  unfold Window.takenTour
  split
  · split <;> rfl
  · rfl

/-- What a take can write in a window of both lists. -/
theorem Window.takenBoth_eq : x.takenBoth f old = { x.takenTour f old with
    shown := (x.takenBoth f old).shown, trans := (x.takenBoth f old).trans, frozen := (x.takenBoth f old).frozen } := by
  unfold Window.takenBoth
  split
  · split <;> rfl
  · rw [Window.start_eq]
    rfl

/-- The binding, the copies and the freeze order after a take (R98, R99). -/
theorem Window.taken_copies (was will : Bool) : (x.taken was will f).binding = x.binding
    ∧ (x.taken was will f).staged = x.staged ∧ (x.taken was will f).live = x.staged
    ∧ (x.taken was will f).freezeOrder = if was && !will then .none else x.freezeOrder := by
  cases was <;> cases will
  · exact ⟨rfl, rfl, rfl, rfl⟩
  · unfold Window.taken
    dsimp only
    split <;> exact ⟨rfl, rfl, rfl, rfl⟩
  · exact ⟨rfl, rfl, rfl, rfl⟩
  · unfold Window.taken
    dsimp only
    rw [Window.takenBoth_eq, Window.takenTour_eq]
    exact ⟨rfl, rfl, rfl, rfl⟩

variable {x old} {src : Shown} {e : TourEntry} {rest : List TourEntry}

theorem Window.liveTarget_plain (h : x.live.source = .plain src) : x.liveTarget = src := by
  unfold Window.liveTarget
  rw [h]

theorem Window.liveTarget_tour (h : x.live.source = .tour) (hl : x.live.tourList = e :: rest) :
    x.liveTarget = e.shown := by
  unfold Window.liveTarget Window.entry
  rw [h]
  simp [hl]

/-- A window of the new list only appears at once, and a tour starts (R98 (1), R109). -/
theorem Window.taken_entering : (x.taken false true f).trans = .none ∧ (x.taken false true f).frozen = false
    ∧ (x.taken false true f).shown = ({ x with live := x.staged } : Window).liveTarget
    ∧ (x.staged.source = .tour → (x.taken false true f).tourPosition = 0
      ∧ (x.taken false true f).tourPeriod = x.staged.dwell * f
      ∧ (x.taken false true f).tourRemaining = x.staged.dwell * f) := by
  unfold Window.taken
  dsimp only
  split
  · exact ⟨rfl, rfl, rfl, fun _ => ⟨rfl, rfl, rfl⟩⟩
  · exact ⟨rfl, rfl, rfl, fun h => absurd h ‹_›⟩

/-- Without a tour the three fields of the tour are 0 (R109). -/
theorem Window.taken_untoured (h : x.staged.source = .plain src) (was will : Bool) :
    (x.taken was will f).tourPosition = 0 ∧ (x.taken was will f).tourPeriod = 0
    ∧ (x.taken was will f).tourRemaining = 0 := by
  have plain : ¬x.staged.source = .tour := by rw [h]; nofun
  cases was <;> cases will <;> unfold Window.taken <;> dsimp only
  · exact ⟨rfl, rfl, rfl⟩
  · rw [if_neg plain]
    exact ⟨rfl, rfl, rfl⟩
  · exact ⟨rfl, rfl, rfl⟩
  · rw [Window.takenBoth_eq, Window.takenTour, if_neg plain]
    exact ⟨rfl, rfl, rfl⟩

/-- A window that keeps its target: its tour starts over and it is unfrozen, or it goes on as it was (R99, R105). -/
theorem Window.takenBoth_kept (h : x.takenTarget old = x.target) : (x.takenBoth f old).shown = x.shown
    ∧ (x.takenBoth f old).trans = x.trans ∧ (x.takenBoth f old).frozen = (x.frozen && !startsOver old x) := by
  unfold Window.takenBoth
  rw [if_pos h, Window.takenTour_eq]
  cases startsOver old x <;> simp

/-- A window that gets another target: it is unfrozen, completes its transition, and moves (R99, R102 to R105). -/
theorem Window.takenBoth_moved (h : x.takenTarget old ≠ x.target) : (x.takenBoth f old).frozen = false
    ∧ (x.live.transition = .cut → (x.takenBoth f old).shown = x.takenTarget old ∧ (x.takenBoth f old).trans = .none)
    ∧ (∀ n, x.live.transition = .fill n → (x.takenBoth f old).shown = x.target
      ∧ (x.takenBoth f old).trans = .dead n (x.takenTarget old))
    ∧ (∀ n, x.live.transition = .mix n → (x.takenBoth f old).shown = x.target
      ∧ (x.takenBoth f old).trans = .mix 1 n x.target (x.takenTarget old)) := by
  unfold Window.takenBoth
  rw [if_neg h, Window.takenTour_eq]
  refine ⟨by simp [Window.complete], fun ht => ?_, fun n ht => ?_, fun n ht => ?_⟩ <;>
    simp only [Window.start, Window.complete, ht, and_true, and_self]
  · rfl
  · exact ⟨rfl, rfl⟩

/-- In both cases the window ends with the target of the take (R95, R99). -/
theorem Window.takenBoth_target : (x.takenBoth f old).target = x.takenTarget old := by
  by_cases h : x.takenTarget old = x.target
  · obtain ⟨hs, ht, -⟩ := Window.takenBoth_kept f h
    rw [h]
    simp only [Window.target, hs, ht]
  · obtain ⟨-, hcut, hfill, hmix⟩ := Window.takenBoth_moved f h
    cases ht : x.live.transition with
    | cut =>
      obtain ⟨hs, ht⟩ := hcut ht
      simp only [Window.target, hs, ht]
    | fill n => simp only [Window.target, (hfill n ht).2]
    | mix n => simp only [Window.target, (hmix n ht).2]


/-- A window that a take gives a plain source: no tour starts over, and the source is the target (R99, R102 to R105). -/
theorem Window.takenBoth_plain (h : x.live.source = .plain src) :
    (src = x.target → (x.takenBoth f old).shown = x.shown ∧ (x.takenBoth f old).trans = x.trans
      ∧ (x.takenBoth f old).frozen = x.frozen)
    ∧ (src ≠ x.target → (x.takenBoth f old).frozen = false
      ∧ (x.live.transition = .cut → (x.takenBoth f old).shown = src ∧ (x.takenBoth f old).trans = .none)
      ∧ (∀ n, x.live.transition = .fill n →
          (x.takenBoth f old).shown = x.target ∧ (x.takenBoth f old).trans = .dead n src)
      ∧ (∀ n, x.live.transition = .mix n →
          (x.takenBoth f old).shown = x.target ∧ (x.takenBoth f old).trans = .mix 1 n x.target src)) := by
  obtain ⟨target, again⟩ : x.takenTarget old = src ∧ startsOver old x = false := by
    simp [Window.takenTarget, startsOver, Window.liveTarget, h]
  refine ⟨fun ht => ?_, fun ht => ?_⟩
  · obtain ⟨hshown, htrans, hfrozen⟩ := Window.takenBoth_kept f (target.trans ht)
    exact ⟨hshown, htrans, hfrozen.trans (by simp [again])⟩
  · have moved := Window.takenBoth_moved (old := old) f (target.symm ▸ ht)
    rwa [target] at moved

/-- A tour that a take starts, or whose list or dwell it changes, starts over at entry 0 (R99, R109). -/
theorem Window.takenBoth_tourStarts (h : x.live.source = .tour) (hl : x.live.tourList = e :: rest)
    (ho : old.source ≠ .tour ∨ old.tourList ≠ x.live.tourList ∨ old.dwell ≠ x.live.dwell) :
    (x.takenBoth f old).tourPosition = 0 ∧ (x.takenBoth f old).tourPeriod = x.live.dwell * f
    ∧ (x.takenBoth f old).tourRemaining = x.live.dwell * f ∧ (x.takenBoth f old).target = e.shown
    ∧ (x.takenBoth f old).frozen = false := by
  have again : startsOver old x = true := by simpa [startsOver, h, or_assoc] using ho
  have target : x.takenTarget old = e.shown := by simp [Window.takenTarget, again, Window.liveTarget_tour h hl]
  have tour : x.takenTour f old = x.startTour f := by rw [Window.takenTour, if_pos h, if_pos again]
  refine ⟨?_, ?_, ?_, by rw [Window.takenBoth_target, target], ?_⟩
  · rw [Window.takenBoth_eq, tour]; rfl
  · rw [Window.takenBoth_eq, tour]; rfl
  · rw [Window.takenBoth_eq, tour]; rfl
  · by_cases hk : x.takenTarget old = x.target
    · rw [(Window.takenBoth_kept f hk).2.2, again]
      simp
    · exact (Window.takenBoth_moved f hk).1

/-- A tour that a take does not change goes on (R99). -/
theorem Window.takenBoth_tourContinues (h : x.live.source = .tour) (hs : old.source = .tour)
    (hl : old.tourList = x.live.tourList) (hd : old.dwell = x.live.dwell) : x.takenBoth f old = x := by
  have again : startsOver old x = false := by simp [startsOver, h, hs, hl, hd]
  have target : x.takenTarget old = x.target := by simp [Window.takenTarget, h, again]
  simp [Window.takenBoth, Window.takenTour, h, again, target]

end

/-! #### The scene (R98) -/

/-- The take of windows one after another changes windows, pins and slots only. -/
theorem takeWindows_eq (old new : List Nat) (f : Nat) (b : Bool) (ws : List Nat) : ∀ s : State, (∀ w ∈ ws, w < 64) →
    ws.foldl (takeWindow old new f b) s = { s with
      windows := (ws.foldl (takeWindow old new f b) s).windows
      pins := (ws.foldl (takeWindow old new f b) s).pins
      slots := (ws.foldl (takeWindow old new f b) s).slots } := by
  induction ws with
  | nil => exact fun s _ => rfl
  | cons w ws ih =>
    intro s hw
    obtain ⟨hw, hws⟩ := List.forall_mem_cons.1 hw
    rw [List.foldl_cons, ih _ hws, takeWindow_eq hw]
    split
    · rw [releasePin_eq]
      rfl
    · rfl

/-- The take of one window leaves every other window as it was (R98). -/
theorem takeWindow_window (hw : w < 64) (old new : List Nat) (f : Nat) (b : Bool) (s : State) (v : Nat) :
    (takeWindow old new f b s w).window v =
      if v = w then (s.window w).taken (old.contains w) (new.contains w) f else s.window v := by
  have rest : (if (s.window w).letsGo (old.contains w) (new.contains w) f then releasePin w b s else s).window v
      = s.window v := by
    split
    · rw [releasePin_eq]
      rfl
    · rfl
  rw [takeWindow_eq hw]
  by_cases hv : v = w
  · subst v
    rw [State.setWindow_window_same _ _ _ hw, if_pos rfl]
  · rw [State.setWindow_window_ne _ _ _ _ hv, rest, if_neg hv]

theorem takeWindows_window (old new : List Nat) (f : Nat) (b : Bool) (v : Nat) (ws : List Nat) : ∀ s : State,
    (∀ w ∈ ws, w < 64) → ws.Nodup → (ws.foldl (takeWindow old new f b) s).window v =
      if v ∈ ws then (s.window v).taken (old.contains v) (new.contains v) f else s.window v := by
  induction ws with
  | nil => exact fun s _ _ => rfl
  | cons w ws ih =>
    intro s hw hnd
    obtain ⟨hw, hws⟩ := List.forall_mem_cons.1 hw
    obtain ⟨hnot, hnd⟩ := List.nodup_cons.1 hnd
    rw [List.foldl_cons, ih _ hws hnd, takeWindow_window hw]
    by_cases hv : v = w
    · subst v
      simp [hnot]
    · simp [hv]

/-- The pins of the windows that the take unfreezes are released (R53, R98, R105). -/
theorem takeWindows_released (old new : List Nat) (f : Nat) (b : Bool) (ws : List Nat) : ∀ s : State,
    (∀ w ∈ ws, w < 64) → ws.Nodup →
    PinsReleased (fun w => w ∈ ws ∧ (s.window w).letsGo (old.contains w) (new.contains w) f = true) s
      (ws.foldl (takeWindow old new f b) s) := by
  induction ws with
  | nil => exact fun s _ _ => .refl (by simp) s
  | cons w ws ih =>
    intro s hw hnd
    obtain ⟨hw, hws⟩ := List.forall_mem_cons.1 hw
    obtain ⟨hnot, hnd⟩ := List.nodup_cons.1 hnd
    have one : PinsReleased (fun v => v = w ∧ (s.window w).letsGo (old.contains w) (new.contains w) f = true) s
        (takeWindow old new f b s w) := by
      rw [takeWindow_eq hw]
      split
      · exact (releasePin_released w b s).of_banks (fun v => ⟨fun hv => ⟨hv, ‹_›⟩, And.left⟩) rfl rfl rfl rfl
      · exact PinsReleased.of_banks (.refl (p := fun _ => False) (fun _ => id) s)
          (fun v => ⟨False.elim, fun hv => absurd hv.2 ‹_›⟩) rfl rfl rfl rfl
    refine (one.trans (ih _ hws hnd)).of_banks (fun v => ?_) rfl rfl rfl rfl
    rw [takeWindow_window hw, List.mem_cons]
    by_cases hv : v = w
    · subst v
      simp [hnot]
    · simp [hv]

/-- At a boundary the slots change their states and pins only (R53). -/
theorem takeWindows_slot_kept (old new : List Nat) (f n : Nat) (ws : List Nat) : ∀ s : State, (∀ w ∈ ws, w < 64) →
    (ws.foldl (takeWindow old new f false) s).slot n = { s.slot n with
      state := ((ws.foldl (takeWindow old new f false) s).slot n).state
      pinned := ((ws.foldl (takeWindow old new f false) s).slot n).pinned } := by
  induction ws with
  | nil => exact fun s _ => rfl
  | cons w ws ih =>
    intro s hw
    obtain ⟨hw, hws⟩ := List.forall_mem_cons.1 hw
    have one : (takeWindow old new f false s w).slot n = { s.slot n with
        state := ((takeWindow old new f false s w).slot n).state
        pinned := ((takeWindow old new f false s w).slot n).pinned } := by
      rw [takeWindow_eq hw]
      split
      · exact releasePin_slot_kept w n s
      · rfl
    rw [List.foldl_cons, ih _ hws, one]

/-- The windows bound to a scene. -/
theorem mem_boundTo : w ∈ s.boundTo k ↔ w < 64 ∧ (s.window w).binding = some k := by
  simp [State.boundTo, windowNumbers]

theorem nodup_boundTo (k : Nat) (s : State) : (s.boundTo k).Nodup := List.nodup_range.filter _

/-- A place that the bank of windows lacks reads as an unbound window. -/
theorem lt_of_bound (h : (s.window w).binding = some k) : w < 64 := by
  by_contra hw
  rw [State.window, look_outside _ _ (Nat.le_of_not_lt hw)] at h
  cases h

/-- A bound window as the take of its scene leaves it (R98). -/
def State.takenWindow (s : State) (k f w : Nat) : Window :=
  (s.window w).taken ((s.scene k).liveList.contains w) ((s.scene k).stagedList.contains w) f

theorem takenWindow_entering (ho : w ∉ (s.scene k).liveList) (hn : w ∈ (s.scene k).stagedList) :
    s.takenWindow k f w = (s.window w).taken false true f := by
  simp [State.takenWindow, ho, hn]

theorem takenWindow_leaving (ho : w ∈ (s.scene k).liveList) (hn : w ∉ (s.scene k).stagedList) :
    s.takenWindow k f w = (s.window w).taken true false f := by
  simp [State.takenWindow, ho, hn]

theorem takenWindow_outside (ho : w ∉ (s.scene k).liveList) (hn : w ∉ (s.scene k).stagedList) :
    s.takenWindow k f w = (s.window w).taken false false f := by
  simp [State.takenWindow, ho, hn]

theorem takenWindow_both (ho : w ∈ (s.scene k).liveList) (hn : w ∈ (s.scene k).stagedList) : s.takenWindow k f w =
    ({ s.window w with live := (s.window w).staged } : Window).takenBoth f (s.window w).live := by
  simp [State.takenWindow, ho, hn, Window.taken]

/-- The pin of window `w` goes with the take of scene `k` (R53, R98, R105). -/
def State.takeLetsGo (s : State) (k f w : Nat) : Prop :=
  w ∈ s.boundTo k ∧
    (s.window w).letsGo ((s.scene k).liveList.contains w) ((s.scene k).stagedList.contains w) f = true

section
variable (hwindow : ∀ w, t.window w = if w ∈ s.boundTo k then s.takenWindow k f w else s.window w)
include hwindow

/-- The pins that go are those of the windows that the take unfreezes (R98, R99, R105). -/
theorem takeLetsGo_iff (w : Nat) : s.takeLetsGo k f w ↔ Unfreezes s t k w := by
  constructor
  · rintro ⟨hw, hgo⟩
    obtain ⟨hold, hfrozen, hfree⟩ := Window.letsGo_iff.1 hgo
    refine ⟨(mem_boundTo.1 hw).2, List.contains_iff_mem.1 hold, hfrozen, ?_⟩
    rw [hwindow, if_pos hw]
    exact hfree
  · rintro ⟨hb, hold, hfrozen, hfree⟩
    have hw := mem_boundTo.2 ⟨lt_of_bound hb, hb⟩
    rw [hwindow, if_pos hw] at hfree
    exact ⟨hw, Window.letsGo_iff.2 ⟨List.contains_iff_mem.2 hold, hfrozen, hfree⟩⟩

/-- What `Window.taken` says of every bound window, with its pins and the scene's own fields, is a take applied (R98,
R99, R105, R109). -/
theorem takeApplied_of
    (hscene : (t.scene k).liveBackground = (s.scene k).stagedBackground
      ∧ (t.scene k).liveList = (s.scene k).stagedList ∧ (t.scene k).stagedBackground = (s.scene k).stagedBackground
      ∧ (t.scene k).stagedList = (s.scene k).stagedList)
    (hothers : ∀ j, j ≠ k → t.scene j = s.scene j) (hpins : PinsReleased (s.takeLetsGo k f) s t) :
    TakeApplied s t k f := by
  have bound : ∀ w, w < 64 → (s.window w).binding = some k → t.window w = s.takenWindow k f w := fun w hw hb => by
    rw [hwindow, if_pos (mem_boundTo.2 ⟨hw, hb⟩)]
  constructor
  case scene => exact hscene
  case others => exact hothers
  case unbound => exact fun w _ hb => (hwindow w).trans (if_neg fun h => hb (mem_boundTo.1 h).2)
  case copied =>
    intro w hw hb
    rw [bound w hw hb]
    obtain ⟨h1, h2, h3, -⟩ := (s.window w).taken_copies f _ _
    exact ⟨h1.trans hb, h2, h3⟩
  case entering =>
    intro w hw hb ho hn
    rw [bound w hw hb, takenWindow_entering ho hn]
    obtain ⟨htrans, hfrozen, hshown, htour⟩ := Window.taken_entering (x := s.window w) f
    refine ⟨htrans, hfrozen, fun src hs => hshown.trans (Window.liveTarget_plain hs), fun hs => ?_⟩
    obtain ⟨h1, h2, h3⟩ := htour hs
    exact ⟨h1, h2, h3, fun e rest hl => hshown.trans (Window.liveTarget_tour hs hl)⟩
  case leaving =>
    intro w hw hb ho hn
    rw [bound w hw hb, takenWindow_leaving ho hn]
    exact ⟨rfl, rfl, rfl, rfl, rfl, rfl, rfl⟩
  case outside =>
    intro w hw hb ho hn
    rw [bound w hw hb, takenWindow_outside ho hn]
    exact ⟨rfl, rfl, fun src hs => Window.liveTarget_plain hs, fun e rest hs hl => Window.liveTarget_tour hs hl⟩
  case untoured =>
    intro w src hw hb hs
    rw [bound w hw hb]
    exact Window.taken_untoured f hs _ _
  case orders =>
    intro w hw hb h
    rw [bound w hw hb]
    obtain ⟨-, -, -, horder⟩ := (s.window w).taken_copies f ((s.scene k).liveList.contains w)
      ((s.scene k).stagedList.contains w)
    refine horder.trans (if_neg ?_)
    rcases h with h | h <;> simp [h]
  case pins => exact hpins.of_banks (takeLetsGo_iff hwindow) rfl rfl rfl rfl
  case kept =>
    intro w src hw hb ho hn hs
    rw [bound w hw hb, takenWindow_both ho hn]
    exact Window.takenBoth_plain (x := { s.window w with live := (s.window w).staged }) f hs
  case tourStarts =>
    intro w e rest hw hb ho hn hs hl hd
    rw [bound w hw hb, takenWindow_both ho hn]
    exact Window.takenBoth_tourStarts f hs hl hd
  case tourContinues =>
    intro w hw hb ho hn hs hold hl hd
    rw [bound w hw hb, takenWindow_both ho hn, Window.takenBoth_tourContinues f hs hold hl hd]
    exact ⟨rfl, rfl, rfl, rfl, rfl⟩

end

/-- The scenes as a take leaves them (R98). -/
theorem applyTake_scenes (k f : Nat) (b : Bool) (s : State) : (applyTake k f b s).scenes = put s.scenes k
    { s.scene k with liveBackground := (s.scene k).stagedBackground, liveList := (s.scene k).stagedList } := by
  unfold applyTake
  rw [takeWindows_eq _ _ _ _ _ _ fun w hw => (mem_boundTo.1 hw).1]
  rfl

/-- A take changes scenes, windows, pins and slots only (R98). -/
theorem applyTake_eq (k f : Nat) (b : Bool) (s : State) : applyTake k f b s = { s with
    scenes := (applyTake k f b s).scenes, windows := (applyTake k f b s).windows
    pins := (applyTake k f b s).pins, slots := (applyTake k f b s).slots } := by
  unfold applyTake
  rw [takeWindows_eq _ _ _ _ _ _ fun w hw => (mem_boundTo.1 hw).1]
  rfl

/-- A take leaves of its scene, the windows bound to it and their pins what the rules say (R98, R99, R105, R109). -/
theorem applyTake_applied (hk : k < 16) (f : Nat) (b : Bool) (s : State) : TakeApplied s (applyTake k f b s) k f := by
  have small : ∀ w ∈ s.boundTo k, w < 64 := fun w hw => (mem_boundTo.1 hw).1
  have scene : (applyTake k f b s).scene k = { s.scene k with
      liveBackground := (s.scene k).stagedBackground, liveList := (s.scene k).stagedList } := by
    rw [State.scene, applyTake_scenes, look_put_same _ _ _ hk]
  refine takeApplied_of (fun w => ?_) (by rw [scene]; exact ⟨rfl, rfl, rfl, rfl⟩) (fun j hj => ?_) ?_
  · exact takeWindows_window _ _ f b w _ _ small (nodup_boundTo k s)
  · rw [State.scene, applyTake_scenes, look_put_ne _ _ _ hj]
    rfl
  · let t := s.setScene k { s.scene k with
      liveBackground := (s.scene k).stagedBackground, liveList := (s.scene k).stagedList }
    exact (takeWindows_released _ _ f b _ t small (nodup_boundTo k s)).of_banks (fun _ => Iff.rfl) rfl rfl rfl rfl

/-- Clearing the take pending flag writes nothing that a take speaks of (R81). -/
theorem TakeApplied.clear (h : TakeApplied s t k f) (hk : k < 16) : TakeApplied s (clearTakePending k t) k f := by
  have scene : (clearTakePending k t).scene k = { t.scene k with takePending := false } :=
    State.setScene_scene_same _ _ _ hk
  exact { h with
    scene := by rw [scene]; exact h.scene
    others := fun j hj => (State.setScene_scene_ne _ _ _ _ hj).trans (h.others j hj)
    pins := h.pins.of_banks (fun _ => Iff.rfl) rfl rfl rfl rfl }

/-! #### The pending take as a command (R100) -/

/-- The scene and the take F of a pending take. -/
def PendingRequest.pendingTake (x : PendingRequest) : Option (Nat × Nat) :=
  match x.target with
  | .take j g => some (j, g)
  | .assign .. | .grab .. | .reset .. => none

theorem pendingTakes_eq (s : State) : s.pendingTakes = s.link.table.filterMap PendingRequest.pendingTake := rfl

theorem pendingTake_any (x : PendingRequest) : x.pendingTake.any (fun take => take.1 == k) = x.target.isTakeOf k := by
  unfold PendingRequest.pendingTake
  cases x.target <;> rfl

/-- The pending take of a scene, where the table holds one only. -/
theorem pendingTakes_alone {before after : List PendingRequest} {e : PendingRequest}
    (ht : s.link.table = before ++ e :: after) (he : e.target = .take k f)
    (hx : ∀ x ∈ before ++ after, x.target.isTakeOf k = false) :
    s.pendingTakes.find? (fun take => take.1 == k) = some (k, f) := by
  have found : s.link.table.find? (fun x => x.target.isTakeOf k) = some e := by
    rw [ht, List.find?_append, List.find?_eq_none.2 fun x hm => by simp [hx x (List.mem_append_left _ hm)]]
    simp [he, PendingTarget.isTakeOf]
  rw [pendingTakes_eq, List.find?_filterMap]
  simp only [pendingTake_any, found, Option.bind_some]
  simp only [PendingRequest.pendingTake, he]

theorem exec_sceneTakeApply {k : Fin 16} (hr : s.resetLine = false)
    (h : s.pendingTakes.find? (fun take => take.1 == k.val) = some (k.val, f)) : exec (.sceneTakeApply k) s =
      .next (endWhere (·.isTakeOf k.val) .done (clearTakePending k.val (applyTake k.val f false s))) := by
  show execSceneTakeApply k s = _
  rw [execSceneTakeApply, whenRunning_run hr]
  simp only [h]
  rfl

/-- The one take of a scene ends, and its reply is queued: the link is written and nothing else (R154). -/
theorem endWhere_ended {before after : List PendingRequest} {e : PendingRequest} {pick : PendingTarget → Bool}
    {status : Status} (ht : s.link.table = before ++ e :: after) (he : pick e.target = true)
    (hx : ∀ x ∈ before ++ after, pick x.target = false) : endWhere pick status s = s.ended before after e status := by
  have link := endWhere_alone (status := status) ht he hx
  calc endWhere pick status s = { s with link := (endWhere pick status s).link } := rfl
    _ = { s with link := (s.ended before after e status).link } := by rw [link]
    _ = s.ended before after e status := rfl

/-- Settles O37: the take applied at a boundary, with its flag cleared and its one entry ended. -/
theorem pendingTakeIsApplied : Obligations.PendingTakeIsApplied := by
  unfold Obligations.PendingTakeIsApplied
  intro k f before after e s hr ht he hx
  let u := clearTakePending k.val (applyTake k.val f false s)
  have applied : TakeApplied s u k.val f := (applyTake_applied k.isLt f false s).clear k.isLt
  have frame : u = { s with scenes := u.scenes, windows := u.windows, pins := u.pins, slots := u.slots } := by
    show clearTakePending k.val (applyTake k.val f false s) = _
    rw [applyTake_eq]
    rfl
  have table : u.link.table = before ++ e :: after := by rw [frame]; exact ht
  have pick : e.target.isTakeOf k.val = true := by simp [he, PendingTarget.isTakeOf]
  have ended : endWhere (·.isTakeOf k.val) .done u = u.ended before after e .done := endWhere_ended table pick hx
  refine ⟨u.ended before after e .done, ?_, ?_, ?_, ?_, fun n => ?_⟩
  · rw [exec_sceneTakeApply hr (pendingTakes_alone ht he hx)]
    exact congrArg _ ended
  · exact { applied with pins := applied.pins.of_banks (fun _ => Iff.rfl) rfl rfl rfl rfl }
  · show (u.scene k.val).takePending = false
    exact congrArg Scene.takePending (State.setScene_scene_same _ _ _ k.isLt)
  · show u.ended before after e .done = _
    rw [frame]
    rfl
  · exact takeWindows_slot_kept _ _ f n _ _ fun w hw => (mem_boundTo.1 hw).1

end Sys2Proof.Machine
end

section
/-! ### Operations that leave the time base alone

The invariant of the time base speaks of the instant, the capture units (by whose state the lock source is present) and
the time base itself: the part's clock. Each operation of the other blocks leaves it as it was, or changes one unit. -/

namespace Sys2Proof.Machine

variable {s t : State}

/-- All that the invariant of the time base speaks of. -/
def State.clock (s : State) := (s.now, s.inputs, s.time)

theorem clock_eq_iff : t.clock = s.clock ↔ t.now = s.now ∧ t.inputs = s.inputs ∧ t.time = s.time := by
  simp [State.clock]

/-- Presence of the lock source depends on the clock only (R63, R64). -/
theorem lockPresent_of_clock (h : t.clock = s.clock) : t.lockPresent = s.lockPresent := by
  obtain ⟨-, hi, ht⟩ := clock_eq_iff.1 h
  unfold State.lockPresent State.inputPresent State.input
  rw [hi, ht]

/-- Operations that each leave the clock leave it one after another. -/
theorem clock_foldl {α : Type} {f : State → α → State} (hf : ∀ s x, (f s x).clock = s.clock) (l : List α) :
    ∀ s : State, (l.foldl f s).clock = s.clock := by
  induction l with
  | nil => exact fun _ => rfl
  | cons x rest ih => exact fun s => (ih _).trans (hf s x)

/-- An operation that leaves the clock where it is done leaves it in either case. -/
theorem clock_ite {c : Prop} [Decidable c] {a b : State} (ha : a.clock = s.clock) (hb : b.clock = s.clock) :
    (if c then a else b).clock = s.clock := by
  split
  · exact ha
  · exact hb

/-! #### Writes of single places -/

@[simp] theorem clock_setSlot (n : Nat) (x : Slot) (s : State) : (s.setSlot n x).clock = s.clock := rfl
@[simp] theorem clock_setStill (e : Nat) (x : Option Nat) (s : State) : (s.setStill e x).clock = s.clock := rfl
@[simp] theorem clock_setScene (k : Nat) (x : Scene) (s : State) : (s.setScene k x).clock = s.clock := rfl
@[simp] theorem clock_setWindow (w : Nat) (x : Window) (s : State) : (s.setWindow w x).clock = s.clock := rfl
@[simp] theorem clock_setPort (p : Nat) (x : Port) (s : State) : (s.setPort p x).clock = s.clock := rfl
@[simp] theorem clock_setLink (x : Link) (s : State) : (s.setLink x).clock = s.clock := rfl
theorem clock_setNextLine (n : Nat) (s : State) : ({ s with nextLine := n } : State).clock = s.clock := rfl
@[simp] theorem clock_setLine (line : OverrideLine) (level : Bool) (s : State) :
    (s.setLine line level).clock = s.clock := by
  cases line <;> rfl

/-! #### The event unit and the link -/

@[simp] theorem clock_answer (tag kind : Byte) (status : Status) (s : State) :
    (answer tag kind status s).clock = s.clock := rfl
@[simp] theorem clock_answerData (tag kind : Byte) (data : List Byte) (s : State) :
    (answerData tag kind data s).clock = s.clock := rfl
@[simp] theorem clock_reservePlace (s : State) : (reservePlace s).clock = s.clock := rfl
@[simp] theorem clock_enterTable (tag : Byte) (x : PendingTarget) (s : State) : (enterTable tag x s).clock = s.clock :=
  rfl
@[simp] theorem clock_endPending (f : PendingTarget → Option Status) (s : State) : (endPending f s).clock = s.clock :=
  rfl
@[simp] theorem clock_endWhere (f : PendingTarget → Bool) (status : Status) (s : State) :
    (endWhere f status s).clock = s.clock := rfl

@[simp] theorem clock_linkError (s : State) : (linkError s).clock = s.clock := by
  unfold linkError
  split <;> rfl

@[simp] theorem clock_queueFrame (f : Frame) (s : State) : (queueFrame f s).clock = s.clock := by
  unfold queueFrame
  split
  · rfl
  · split
    · rfl
    · exact clock_linkError s

@[simp] theorem clock_discard (s : State) : (discard s).clock = s.clock := clock_linkError (hunt s)

/-! #### The frame store -/

@[simp] theorem clock_allocateRing (i m : Nat) (s : State) : (allocateRing i m s).clock = s.clock := rfl
@[simp] theorem clock_releaseClaims (s : State) : (releaseClaims s).clock = s.clock := rfl
@[simp] theorem clock_markStale (i : Nat) (s : State) : (markStale i s).clock = s.clock := rfl

@[simp] theorem clock_badEnd (i : Nat) (s : State) : (badEnd i s).clock = s.clock := by rw [badEnd_eq]; rfl

@[simp] theorem clock_retireStill (e : Nat) (s : State) : (retireStill e s).clock = s.clock := by
  rw [retireStill_eq]; rfl

@[simp] theorem clock_completeGrab (i e n r : Nat) (s : State) : (completeGrab i e n r s).clock = s.clock := by
  rw [completeGrab_eq]; rfl

@[simp] theorem clock_goodEnd (i q : Nat) (f : Format) (p : Picture) (s : State) :
    (goodEnd i q f p s).clock = s.clock := by
  unfold goodEnd
  dsimp only
  split
  · rfl
  · split
    · exact clock_completeGrab _ _ _ _ _
    · rfl

@[simp] theorem clock_freeReservation (i : Nat) (s : State) : (freeReservation i s).clock = s.clock := by
  rw [freeReservation_eq]; rfl

@[simp] theorem clock_failGrab (i : Nat) (status : Status) (s : State) : (failGrab i status s).clock = s.clock := by
  rw [failGrab_eq]; rfl


@[simp] theorem clock_unfreeze (w : Nat) (b : Bool) (s : State) : (unfreeze w b s).clock = s.clock := by
  rw [unfreeze_eq]; rfl

@[simp] theorem clock_unfreezeAll (i : Nat) (s : State) : (unfreezeAll i s).clock = s.clock :=
  clock_foldl (fun s w => clock_unfreeze w true s) _ s

@[simp] theorem clock_releaseRing (i : Nat) (s : State) : (releaseRing i s).clock = s.clock := by
  unfold releaseRing
  exact clock_failGrab _ _ _

@[simp] theorem clock_countGrabs (s : State) : (countGrabs s).clock = s.clock :=
  clock_foldl (fun s i => clock_freeReservation i s) _ s

@[simp] theorem clock_reserveSlot (i : Nat) (s : State) : (reserveSlot i s).clock = s.clock := by
  unfold reserveSlot
  split <;> rfl

/-! #### The compositor -/


@[simp] theorem clock_claimSource (w : Nat) (b : Bool) (s : State) (src : Shown) :
    (claimSource w b s src).clock = s.clock := by
  rw [claimSource_eq]
  split <;> rfl

@[simp] theorem clock_claimWindow (b : Bool) (brought : Nat → Shown → Bool) (s : State) (w : Nat) :
    (claimWindow b brought s w).clock = s.clock :=
  clock_foldl (fun s src => clock_ite rfl (clock_claimSource w b s src)) _ s

@[simp] theorem clock_claimScene (b : Bool) (brought : Nat → Shown → Bool) (s : State) (k : Nat) :
    (claimScene b brought s k).clock = s.clock :=
  clock_foldl (clock_claimWindow b brought) _ s


@[simp] theorem clock_pinWindow (ages : Vector Ring 16) (s : State) (w : Nat) :
    (pinWindow ages s w).clock = s.clock := by
  unfold pinWindow
  dsimp only
  split
  · split
    · split
      · rfl
      · exact clock_ite rfl (clock_ite rfl rfl)
    · rfl
  · rfl

@[simp] theorem clock_claimPortStill (s : State) (p : Nat) : (claimPortStill s p).clock = s.clock := by
  unfold claimPortStill
  dsimp only
  split
  · split <;> rfl
  · rfl

@[simp] theorem clock_makeClaims (frozen : List Nat) (s : State) : (makeClaims frozen s).clock = s.clock := by
  unfold makeClaims
  refine (clock_foldl clock_claimPortStill _ _).trans ?_
  refine (clock_foldl (clock_claimScene false broughtNone) _ _).trans ?_
  exact clock_foldl (clock_pinWindow _) _ _

/-! #### Windows and scenes -/

@[simp] theorem clock_expireTour (w : Nat) (s : State) : (expireTour w s).clock = s.clock := by
  unfold expireTour
  dsimp only
  split <;> rfl

@[simp] theorem clock_advanceWindow (s : State) (w : Nat) : (advanceWindow s w).clock = s.clock := by
  unfold advanceWindow countTour
  exact clock_ite (clock_ite (clock_ite (clock_expireTour w _) rfl) rfl) rfl

@[simp] theorem clock_applyTake (k f : Nat) (b : Bool) (s : State) : (applyTake k f b s).clock = s.clock := by
  rw [applyTake_eq]; rfl

@[simp] theorem clock_applyPendingTake (s : State) (take : Nat × Nat) : (applyPendingTake s take).clock = s.clock :=
  clock_applyTake take.1 take.2 false s

@[simp] theorem clock_carryOutFreeze (s : State) (w : Nat) : (carryOutFreeze s w).clock = s.clock := by
  unfold carryOutFreeze
  dsimp only
  split
  · rfl
  · rfl
  · exact clock_ite (clock_unfreeze _ _ _) rfl

/-! #### Ports and the boundary -/

@[simp] theorem clock_takeCauses (n : Nat) (old p : Port) (s : State) : (takeCauses n old p s).clock = s.clock := by
  rw [takeCauses_eq]; rfl

@[simp] theorem clock_moveLine (line : OverrideLine) (level : Bool) (s : State) :
    (moveLine line level s).clock = s.clock := by
  unfold moveLine
  refine (clock_foldl (fun s n => ?_) _ _).trans (clock_setLine line level s)
  exact clock_ite (clock_takeCauses n _ _ s) rfl

@[simp] theorem clock_composeNow (k : Nat) (s : State) : (composeNow k s).clock = s.clock :=
  clock_ite rfl (clock_claimScene _ _ _ k)

@[simp] theorem clock_applyAssignNow (n : Nat) (scene : Option Nat) (s : State) :
    (applyAssignNow n scene s).clock = s.clock := by
  unfold applyAssignNow
  dsimp only
  split
  · split
    · exact clock_composeNow _ _
    · rfl
  · rfl

@[simp] theorem clock_applyPortSetup (q : PortSetupFields) (s : State) : (applyPortSetup q s).clock = s.clock :=
  clock_ite rfl (clock_ite (clock_takeCauses _ _ _ s) (clock_takeCauses _ _ _ s))

@[simp] theorem clock_portBoundary (s : State) : (portBoundary s).clock = s.clock := rfl

@[simp] theorem clock_pictureBoundary (s : State) : (pictureBoundary s).clock = s.clock := by
  have taken : (advanceAndTake s).clock = s.clock := by
    unfold advanceAndTake
    dsimp only
    rw [clock_foldl clock_applyPendingTake, clock_foldl clock_advanceWindow]
  have carried : (carryOutFreezes (advanceAndTake s)).clock = s.clock := by
    unfold carryOutFreezes
    rw [clock_foldl clock_carryOutFreeze, taken]
  unfold pictureBoundary
  exact (clock_makeClaims _ _).trans ((clock_portBoundary _).trans carried)

/-- Of a boundary only the time base's own work touches the clock (R29, R96, R141, R45, R154). -/
theorem clock_takeBoundary (b : Ticks) (s : State) : (takeBoundary b s).clock = (timeBoundary b s).clock := by
  have opened : (countGrabs (releaseClaims (timeBoundary b s))).clock = (timeBoundary b s).clock :=
    (clock_countGrabs _).trans (clock_releaseClaims _)
  exact (clock_setNextLine _ _).trans ((clock_endPending _ _).trans ((clock_pictureBoundary _).trans opened))

/-! #### The capture units -/

@[simp] theorem clock_raiseInput (i : Nat) (u v : Input) (lost : Bool) (s : State) :
    (raiseInput i u v lost s).clock = s.clock := by
  rw [raiseInput_eq]; rfl

@[simp] theorem clock_emptied (b : Bool) (i : Nat) (s : State) : (if b then badEnd i s else s).clock = s.clock :=
  clock_ite (clock_badEnd i s) rfl

/-- A frame event writes its unit and nothing else of the clock (R8, R14, R36, R54). -/
theorem clock_takeFrameEvent (i : Nat) (v : Input) (s : State) :
    (takeFrameEvent i v s).clock = (s.setInput i v).clock := by
  rw [takeFrameEvent_eq]; rfl

end Sys2Proof.Machine
end

section
/-! ### The invariant of the time base, on the time base itself

`TimeBase.Sound` says the same as `TimingSound` of a time base at an instant, with presence of its lock source given
apart: between a change of presence and what it brings, the time base is sound for the presence before (R65 to R67). -/

namespace Sys2Proof.Machine

variable {s t : State} {a : TimeBase} {now m : Ticks} {was present : Bool}

/-- The record, the measured period and the schedule are consistent, whatever the timing state is (R62, R63, R66). -/
structure TimeBase.Scheduled (a : TimeBase) (now : Ticks) : Prop where
  reference : a.refPresent = true →
    ∃ p x, a.reference = some p ∧ p.interval = some x ∧ a.rate.inReferenceBand x = true
  band : ∀ m, a.measured = some m → a.rate.shortest ≤ m ∧ m ≤ a.rate.longest
  began : a.frameBegan ≤ now
  spaced : a.settled = .plain → ∀ b, a.nextBoundary = some b → a.frameBegan + a.rate.shortest ≤ b

/-- The timing state agrees with presence of the lock source, the count, the measured period and the schedule (R65 to
R67). -/
structure TimeBase.Sound (a : TimeBase) (now : Ticks) (present : Bool) : Prop extends a.Scheduled now where
  counting : a.timing = .holdover → 1 ≤ a.holdover ∧ a.holdover ≤ 600
  still : a.timing ≠ .holdover → a.holdover = 0
  free : a.source = .free → a.timing = .freeRun
  present : a.source ≠ .free → (a.timing = .tracking ↔ present = true)
  scheduled : a.timing ≠ .tracking → a.nextBoundary.isSome = true
  held : a.timing = .holdover → a.measured.isSome = true
  followed : a.timing = .tracking → a.settled ≠ .align → a.nextBoundary.isSome = true → a.measured.isSome = true

theorem timingSound_iff : TimingSound s ↔ s.time.Sound s.now s.lockPresent :=
  ⟨fun h => ⟨⟨h.reference, h.band, h.began, h.spaced⟩, h.counting, h.still, h.free, h.present, h.scheduled, h.held,
      h.followed⟩,
    fun h => ⟨h.counting, h.still, h.free, h.present, h.reference, h.scheduled, h.band, h.held, h.followed, h.began,
      h.spaced⟩⟩

/-! #### Presence of the lock source -/

/-- Presence is read from the units, the lock source, the rate and the presence of REFERENCE (R63, R64). -/
theorem lockPresent_congr (hi : t.inputs = s.inputs) (hs : t.time.source = s.time.source)
    (hr : t.time.rate = s.time.rate) (hp : t.time.refPresent = s.time.refPresent) : t.lockPresent = s.lockPresent := by
  unfold State.lockPresent State.inputPresent State.input
  rw [hi, hs, hr, hp]

/-- FREE is never present (R65). -/
theorem source_of_lockPresent (h : s.lockPresent = true) : s.time.source ≠ .free := by
  intro e
  simp [State.lockPresent, e] at h

/-- An invariant time base stays so while it is not touched, presence stays, and time goes on. -/
theorem TimingSound.of_present (h : TimingSound s) (ht : t.time = s.time) (hn : s.now ≤ t.now)
    (hp : t.lockPresent = s.lockPresent) : TimingSound t := by
  rw [timingSound_iff] at h ⊢
  rw [ht, hp]
  exact { h with began := Nat.le_trans h.began hn }

theorem TimingSound.of_clock (h : TimingSound s) (hc : t.clock = s.clock) : TimingSound t :=
  have ⟨hn, _, ht⟩ := clock_eq_iff.1 hc
  h.of_present ht (Nat.le_of_eq hn.symm) (lockPresent_of_clock hc)

theorem TimingSound.reach (h : TimingSound s) (b : Ticks) : TimingSound (s.reach b) :=
  h.of_present rfl (Nat.le_max_left _ _) rfl

/-! #### The numbers of Table 4.2 -/

theorem Rate.shortest_le_period (r : Rate) : r.shortest ≤ r.period := by cases r <;> decide

theorem Rate.factor_bounds (r : Rate) : 1 ≤ 10 * r.factor ∧ 10 * r.factor ≤ 600 := by cases r <;> decide

/-- An interval in the reference band is an output period that the rate accepts (Table 4.2). -/
theorem Rate.reference_accepted {r : Rate} {x : Ticks} (h : r.inReferenceBand x = true) :
    r.shortest ≤ x ∧ x ≤ r.longest := by
  cases r <;> simp only [Rate.inReferenceBand, inBand, Config.us, Bool.and_eq_true, decide_eq_true_eq] at h <;>
    simp only [Rate.shortest, Rate.longest, Config.us] <;> unfold Ticks at * <;> omega

/-- The reference bands of different rates do not meet (Table 4.2). -/
theorem Rate.reference_disjoint {r q : Rate} {x : Ticks} (h : r.inReferenceBand x = true)
    (h' : q.inReferenceBand x = true) : r = q := by
  by_contra differ
  cases r <;> cases q <;> try exact differ rfl
  all_goals
    simp only [Rate.inReferenceBand, inBand, Config.us, Bool.and_eq_true, decide_eq_true_eq] at h h'
    unfold Ticks at *
    omega

/-- Rates with which one rate class is compatible accept the same periods (Tables 1.2, 4.2). -/
theorem Rate.compatible_bands {r q : Rate} {c : RateClass} (h : r.compatible c = true) (h' : q.compatible c = true) :
    r.shortest = q.shortest ∧ r.longest = q.longest := by
  cases c <;> cases r <;> cases q <;> simp_all [Rate.compatible, Rate.shortest, Rate.longest]

/-! #### What a change of presence brings -/

/-- TRACKING entered between boundaries, with the boundary of the frame in progress cancelled (R66 (1)). -/
theorem TimeBase.Sound.gained (h : a.Sound now was) (hs : a.source ≠ .free) :
    ({ a with timing := .tracking, nextBoundary := none, afterNext := none, holdover := 0, settled := .plain } :
      TimeBase).Sound now true where
  toScheduled := ⟨h.reference, h.band, h.began, nofun⟩
  counting := nofun
  still _ := rfl
  free e := absurd e hs
  present _ := ⟨fun _ => rfl, fun _ => rfl⟩
  scheduled e := absurd rfl e
  held := nofun
  followed _ _ := nofun

/-- HOLDOVER entered from TRACKING with a period that the rate accepts (R66 (3), R67). -/
theorem TimeBase.Sound.lost (h : a.Sound now true) (hs : a.source ≠ .free)
    (hm : a.rate.shortest ≤ m ∧ m ≤ a.rate.longest) (uses : Nat) :
    ({ a with
      timing := .holdover, holdover := 10 * a.rate.factor, measured := some m, freeUses := uses
      nextBoundary := some (a.nextBoundary.getD (max now (a.frameBegan + m))) } : TimeBase).Sound now false where
  reference := h.reference
  band x e := by cases e; exact hm
  began := h.began
  spaced hp b e := by
    cases e
    cases hb : a.nextBoundary with
    | some b => exact h.spaced hp b hb
    | none => exact Nat.le_trans (Nat.add_le_add_left hm.1 _) (Nat.le_max_right _ _)
  counting _ := a.rate.factor_bounds
  still e := absurd rfl e
  free e := absurd e hs
  present _ := ⟨nofun, nofun⟩
  scheduled _ := rfl
  held _ := rfl
  followed := nofun

/-- A time base that was sound for the presence `was` is sound again once presence has been settled (R65 to R67). -/
theorem settlePresence_sound (h : s.time.Sound s.now was) : TimingSound (settlePresence was s) := by
  have follows := settlePresence_follows was s
  have instant : (settlePresence was s).now = s.now := by rw [settlePresence_eq]
  generalize settlePresence was s = t at follows instant
  rw [timingSound_iff, instant]
  by_cases gained : was = false ∧ t.lockPresent = true ∧ s.time.timing ≠ .tracking
  · obtain ⟨hw, hl, ht⟩ := gained
    have hs := source_of_lockPresent hl
    obtain ⟨time, -⟩ := follows.gained hw hl ht
    rw [time] at hs
    rw [hl, time]
    exact h.gained hs
  by_cases lost : was = true ∧ t.lockPresent = false ∧ s.time.timing = .tracking
  · obtain ⟨hw, hl, ht⟩ := lost
    obtain ⟨⟨m, -, time, measured, free⟩, -⟩ := follows.lost hw hl ht
    have hs : s.time.source ≠ .free := fun e => by simp [h.free e] at ht
    have hm : s.time.rate.shortest ≤ m ∧ m ≤ s.time.rate.longest := by
      cases hx : s.time.measured with
      | none => exact free hx
      | some x => exact (measured x hx).1 ▸ h.band x hx
    rw [hl, time, instant]
    exact (hw ▸ h).lost hs hm _
  · have same : was = t.lockPresent ∨ (was = false ∧ s.time.timing = .tracking)
        ∨ (was = true ∧ s.time.timing ≠ .tracking) := by
      cases was <;> cases hl : t.lockPresent <;> simp_all
    rw [(follows.stays same).1]
    refine { h with present := fun hs => ?_ }
    have before := h.present hs
    rcases same with e | ⟨e, ht⟩ | ⟨e, ht⟩
    · exact e ▸ before
    · rw [e] at before; simp [ht] at before
    · rw [e] at before; simp [ht] at before

/-- Presence is settled on a part whose clock changed only in its units (R64). -/
theorem TimingSound.settle (h : TimingSound s) (ht : t.time = s.time) (hn : t.now = s.now) :
    TimingSound (settlePresence s.lockPresent t) :=
  settlePresence_sound (by rw [ht, hn]; exact timingSound_iff.1 h)

/-! #### What a lock point brings -/

/-- A lock point that measures a period the rate accepts leaves the schedule as R62 allows (R66 (1), (2)). -/
theorem TimeBase.Sound.met (h : a.Sound now true) (ht : a.timing = .tracking)
    (hm : a.rate.shortest ≤ m ∧ m ≤ a.rate.longest) : (a.meet now m).Sound now true := by
  have taken := meet_taken a now m
  have room := a.rate.shortest_le_period
  have hn := h.began
  obtain ⟨rest, aligns, waits, moves, delays, takes⟩ := taken
  generalize a.meet now m = b at *
  have spaced : ∀ x, b.nextBoundary = some x → a.frameBegan + a.rate.shortest ≤ x := by
    intro x hx
    by_cases hb : a.nextBoundary = none
    · by_cases due : a.frameBegan + a.rate.period ≤ now
      · obtain rfl : now = x := by simpa [(aligns hb due).1] using hx
        exact Nat.le_trans (Nat.add_le_add_left room _) due
      · simp [(waits hb (Nat.lt_of_not_le due)).1] at hx
    · by_cases early : 2 * now < 2 * a.frameBegan + a.rate.period
      · obtain rfl : now + m = x := by simpa [(moves hb early).1] using hx
        exact Nat.add_le_add hn hm.1
      · by_cases late : a.frameBegan + a.rate.shortest ≤ now
        · obtain rfl : now = x := by simpa [(takes hb late).1] using hx
          exact late
        · have delayed := (delays hb (Nat.le_of_not_lt early) (Nat.lt_of_not_le late)).1
          exact Nat.le_of_eq (by simpa [delayed] using hx)
  rw [rest]
  exact
    { reference := h.reference, band := fun x e => by cases e; exact hm, began := h.began
      spaced := fun _ => spaced, counting := h.counting, still := h.still, free := h.free, present := h.present
      scheduled := fun e => absurd ht e, held := fun _ => rfl, followed := fun _ _ _ => rfl }

/-- A lock point in the band keeps the time base sound (R64, R66). -/
theorem TimingSound.lockPoint {period : Ticks} (h : TimingSound s)
    (hp : s.lockPresent = true → s.time.rate.shortest ≤ period ∧ period ≤ s.time.rate.longest) :
    TimingSound (lockPoint period s) := by
  rw [lockPoint_eq]
  split
  · rename_i taken
    obtain ⟨hl, ht⟩ := taken
    have met := (hl ▸ timingSound_iff.1 h).met ht (hp hl)
    have rest := (meet_taken s.time s.now period).rest
    have present : ({ s with time := s.time.meet s.now period } : State).lockPresent = s.lockPresent := by
      refine lockPresent_congr rfl ?_ ?_ ?_ <;> dsimp only <;> rw [rest]
    rw [timingSound_iff, present, hl]
    exact met
  · exact h

end Sys2Proof.Machine
end

section
/-! ### The steps of a boundary on the time base (R67, R69) -/

namespace Sys2Proof.Machine

variable {s t : State} {a : TimeBase} {now m b : Ticks} {r : Rate} {src : LockSource} {present : Bool}

/-! #### The timing states that step (2) enters -/

/-- FREE_RUN from a boundary clears the count (R67, R69). -/
theorem freeRunAtBoundary_eq (s : State) : freeRunAtBoundary s = { s with
    time := { s.time with timing := .freeRun, holdover := 0 }
    events := if s.time.timing = .freeRun then s.events else s.events.raised (.timing .freeRun) } := by
  unfold freeRunAtBoundary
  rw [enterTiming_eq]
  rfl

/-- TRACKING from a boundary clears the count and aligns (R69 (2)). -/
theorem alignAtBoundary_eq (s : State) : alignAtBoundary s = { s with
    time := { s.time with timing := .tracking, holdover := 0, settled := .align }
    events := if s.time.timing = .tracking then s.events else s.events.raised (.timing .tracking) } := by
  unfold alignAtBoundary
  rw [enterTiming_eq]
  rfl

/-- HOLDOVER from a boundary holds the measured period, or a free value in the bands of the rate (R69 (2), (3); log
entry 5). -/
theorem holdAtBoundary_eq (s : State) : ∃ m uses, holdAtBoundary s = { s with
      time := { s.time with
        timing := .holdover, holdover := 10 * s.time.rate.factor, measured := some m, settled := .held
        freeUses := uses }
      events := if s.time.timing = .holdover then s.events else s.events.raised (.timing .holdover) }
    ∧ (∀ x, s.time.measured = some x → m = x)
    ∧ (s.time.measured = none → s.time.rate.shortest ≤ m ∧ m ≤ s.time.rate.longest) := by
  obtain ⟨m, -, e, measured, free⟩ := ensureMeasured_spec s
  refine ⟨m, (ensureMeasured s).time.freeUses, ?_, fun x hx => (measured x hx).1, free⟩
  unfold holdAtBoundary
  dsimp only
  rw [enterTiming_eq, e]
  rfl

/-! None of them changes the presence of the lock source. -/

theorem freeRunAtBoundary_lockPresent (s : State) : (freeRunAtBoundary s).lockPresent = s.lockPresent := by
  rw [freeRunAtBoundary_eq]
  exact lockPresent_congr rfl rfl rfl rfl

theorem alignAtBoundary_lockPresent (s : State) : (alignAtBoundary s).lockPresent = s.lockPresent := by
  rw [alignAtBoundary_eq]
  exact lockPresent_congr rfl rfl rfl rfl

theorem holdAtBoundary_lockPresent (s : State) : (holdAtBoundary s).lockPresent = s.lockPresent := by
  obtain ⟨m, uses, e, -, -⟩ := holdAtBoundary_eq s
  rw [e]
  exact lockPresent_congr rfl rfl rfl rfl

/-! #### The branches of step (2) -/

theorem settleState_free (hs : s.time.source = .free) : settleState r src s = freeRunAtBoundary s := if_pos hs

section
variable (hs : s.time.source ≠ .free)
include hs

theorem settleState_newRate_kept (hr : s.time.rate ≠ r) (hl : s.lockPresent = true) (ht : s.time.timing = .tracking)
    (he : s.time.source = src) : settleState r src s = s := by
  subst he
  simp [settleState, hs, hr, hl, ht]

theorem settleState_newRate_present (hr : s.time.rate ≠ r) (hl : s.lockPresent = true)
    (hk : ¬(s.time.timing = .tracking ∧ s.time.source = src)) : settleState r src s = alignAtBoundary s := by
  simp [settleState, hs, hr, hl, hk]

theorem settleState_newRate_absent (hr : s.time.rate ≠ r) (hl : s.lockPresent = false) :
    settleState r src s = freeRunAtBoundary s := by
  simp [settleState, hs, hr, hl]

theorem settleState_newSource_present (hr : s.time.rate = r) (he : s.time.source ≠ src) (hl : s.lockPresent = true) :
    settleState r src s = alignAtBoundary s := by
  simp [settleState, hs, hr, hl, he]

theorem settleState_newSource_lost (hr : s.time.rate = r) (he : s.time.source ≠ src) (hl : s.lockPresent = false)
    (ht : s.time.timing = .tracking) : settleState r src s = holdAtBoundary s := by
  simp [settleState, hs, hr, hl, he, ht]

theorem settleState_newSource_absent (hr : s.time.rate = r) (he : s.time.source ≠ src) (hl : s.lockPresent = false)
    (ht : s.time.timing ≠ .tracking) : settleState r src s = s := by
  simp [settleState, hs, hr, hl, he, ht]

theorem settleState_same (hr : s.time.rate = r) (he : s.time.source = src) : settleState r src s = s := by
  subst he
  simp [settleState, hs, hr]

end

/-! #### Step (1) -/

theorem applyStaged_sameRate (hr : r = s.time.rate) : applyStaged r src s = { s with
    time := { s.time with rate := r, source := src, staged := none } } := if_pos hr

/-- A new rate works out presence of REFERENCE again and keeps the measured period of a source that stays tracked only
(R63, R69; log entry 32). -/
theorem applyStaged_newRate (hr : r ≠ s.time.rate) : applyStaged r src s = { s with
    time := { s.time with
      rate := r, source := src, staged := none, refPresent := referencePresence r s.now s.time.reference
      settled := if s.time.settled = .plain then .newRate else s.time.settled
      measured :=
        if (s.time.timing = .tracking ∧ s.time.source = src) ∧ (applyStaged r src s).lockPresent = true
        then s.time.measured.filter r.accepts else none } } := by
  have present : (applyStaged r src s).lockPresent = ((putInForce r src s).setTime { (putInForce r src s).time with
      refPresent := referencePresence r s.now s.time.reference
      settled := if s.time.settled = .plain then .newRate else s.time.settled }).lockPresent := by
    rw [show applyStaged r src s = underNewRate _ _ from if_neg hr]
    exact lockPresent_congr rfl rfl rfl rfl
  rw [present, show applyStaged r src s = underNewRate _ _ from if_neg hr]
  unfold underNewRate
  simp only [Bool.and_eq_true, beq_iff_eq]
  rfl

/-- Whatever was put in force, the schedule stays consistent: no boundary is bound to the old rate (R62, R69 (1)). -/
theorem TimingSound.applyStaged_scheduled (h : TimingSound s) (r : Rate) (src : LockSource) :
    (applyStaged r src s).time.Scheduled s.now := by
  by_cases hr : r = s.time.rate
  · rw [applyStaged_sameRate hr]
    subst hr
    exact ⟨h.reference, h.band, h.began, h.spaced⟩
  · rw [applyStaged_newRate hr]
    refine ⟨fun hp => ?_, fun m hm => ?_, h.began, fun hp => ?_⟩
    · cases hf : s.time.reference with
      | none => simp [referencePresence, hf] at hp
      | some p =>
        cases hx : p.interval with
        | none => simp [referencePresence, hf, Pulse.inBand, hx] at hp
        | some x =>
          simp only [referencePresence, hf, Pulse.inBand, hx, Bool.and_eq_true] at hp
          exact ⟨p, x, rfl, hx, hp.1⟩
    · dsimp only at hm
      split at hm
      · obtain ⟨-, ok⟩ := Option.filter_eq_some_iff.1 hm
        simpa [Rate.accepts] using ok
      · cases hm
    · dsimp only at hp
      split at hp
      · cases hp
      · rename_i hn
        exact absurd hp hn

/-- A tracked source that stays present under a new rate is an input, and both rates accept the same periods; REFERENCE
is in one band only (R63, R64, Table 4.2). -/
theorem TimingSound.kept_measured (h : TimingSound s) (hr : r ≠ s.time.rate) (hs : src ≠ .free)
    (ht : s.time.timing = .tracking) (he : s.time.source = src) (hl : (applyStaged r src s).lockPresent = true)
    (hm : s.time.measured = some m) : (applyStaged r src s).time.measured = some m := by
  have before : s.lockPresent = true := (h.present (he ▸ hs)).1 ht
  have source : (applyStaged r src s).time.source = src := by rw [applyStaged_eq]
  have bands : s.time.rate.shortest = r.shortest ∧ s.time.rate.longest = r.longest := by
    cases src with
    | free => exact absurd rfl hs
    | reference =>
      simp only [State.lockPresent, he] at before
      simp only [State.lockPresent, source] at hl
      obtain ⟨p, x, hp, hx, inBand⟩ := h.reference before
      obtain ⟨p', x', hp', hx', inBand'⟩ := (h.applyStaged_scheduled r .reference).reference hl
      rw [applyStaged_eq] at hp' inBand'
      obtain rfl : p = p' := Option.some.inj (hp.symm.trans hp')
      obtain rfl : x = x' := Option.some.inj (hx.symm.trans hx')
      exact absurd (Rate.reference_disjoint inBand' inBand) hr
    | input n =>
      have same : (applyStaged r (.input n) s).input n = s.input n := by rw [applyStaged_eq]; rfl
      have rate : (applyStaged r (.input n) s).time.rate = r := by rw [applyStaged_eq]
      simp only [State.lockPresent, he, State.inputPresent, Bool.and_eq_true] at before
      simp only [State.lockPresent, source, State.inputPresent, same, rate, Bool.and_eq_true] at hl
      cases hc : (s.input n).counted with
      | none => simp [hc] at before
      | some f =>
        simp only [hc] at before hl
        exact Rate.compatible_bands before.2 hl.2
  have accepted : r.accepts m = true := by
    have := h.band m hm
    rw [bands.1, bands.2] at this
    simpa [Rate.accepts] using this
  rw [applyStaged_newRate hr]
  dsimp only
  rw [if_pos ⟨⟨ht, he⟩, hl⟩, hm, Option.filter_some, if_pos accepted]

/-! #### A boundary that is scheduled stays sound through steps (1) to (3) -/

theorem TimeBase.Scheduled.freeRun (h : a.Scheduled now) (hb : a.nextBoundary.isSome = true)
    (hp : a.source ≠ .free → present = false) :
    ({ a with timing := .freeRun, holdover := 0 } : TimeBase).Sound now present where
  toScheduled := ⟨h.reference, h.band, h.began, h.spaced⟩
  counting := nofun
  still _ := rfl
  free _ := rfl
  present hs := ⟨nofun, fun e => by rw [hp hs] at e; cases e⟩
  scheduled _ := hb
  held := nofun
  followed := nofun

theorem TimeBase.Scheduled.align (h : a.Scheduled now) (hs : a.source ≠ .free) :
    ({ a with timing := .tracking, holdover := 0, settled := .align } : TimeBase).Sound now true where
  toScheduled := ⟨h.reference, h.band, h.began, nofun⟩
  counting := nofun
  still _ := rfl
  free e := absurd e hs
  present _ := ⟨fun _ => rfl, fun _ => rfl⟩
  scheduled e := absurd rfl e
  held := nofun
  followed _ e := absurd rfl e

theorem TimeBase.Scheduled.hold (h : a.Scheduled now) (hb : a.nextBoundary.isSome = true) (hs : a.source ≠ .free)
    (hm : a.rate.shortest ≤ m ∧ m ≤ a.rate.longest) (uses : Nat) :
    ({ a with
      timing := .holdover, holdover := 10 * a.rate.factor, measured := some m, settled := .held
      freeUses := uses } : TimeBase).Sound now false where
  toScheduled := ⟨h.reference, fun x e => by cases e; exact hm, h.began, nofun⟩
  counting _ := a.rate.factor_bounds
  still e := absurd rfl e
  free e := absurd e hs
  present _ := ⟨nofun, nofun⟩
  scheduled _ := hb
  held _ := rfl
  followed := nofun

theorem freeRunAtBoundary_sound (h : s.time.Scheduled s.now) (hb : s.time.nextBoundary.isSome = true)
    (hp : s.time.source ≠ .free → s.lockPresent = false) : TimingSound (freeRunAtBoundary s) := by
  rw [timingSound_iff, freeRunAtBoundary_lockPresent, freeRunAtBoundary_eq]
  exact h.freeRun hb hp

theorem alignAtBoundary_sound (h : s.time.Scheduled s.now) (hl : s.lockPresent = true) :
    TimingSound (alignAtBoundary s) := by
  rw [timingSound_iff, alignAtBoundary_lockPresent, hl, alignAtBoundary_eq]
  exact h.align (source_of_lockPresent hl)

theorem holdAtBoundary_sound (h : s.time.Scheduled s.now) (hb : s.time.nextBoundary.isSome = true)
    (hs : s.time.source ≠ .free) (hl : s.lockPresent = false) : TimingSound (holdAtBoundary s) := by
  obtain ⟨m, uses, e, measured, free⟩ := holdAtBoundary_eq s
  rw [timingSound_iff, holdAtBoundary_lockPresent, hl, e]
  refine h.hold hb hs ?_ uses
  cases hm : s.time.measured with
  | none => exact free hm
  | some x => exact measured x hm ▸ h.band x hm

/-- A new lock source at the rate in force leaves the time base sound once step (2) has settled it (R69). -/
theorem TimingSound.settle_sameRate (h : TimingSound s) (hb : s.time.nextBoundary.isSome = true) (src : LockSource) :
    TimingSound (settleState s.time.rate s.time.source (applyStaged s.time.rate src s)) := by
  have scheduled := h.applyStaged_scheduled s.time.rate src
  rw [applyStaged_sameRate rfl] at scheduled ⊢
  let u : State := { s with time := { s.time with source := src, staged := none } }
  change u.time.Scheduled u.now at scheduled
  show TimingSound (settleState s.time.rate s.time.source u)
  by_cases hs : u.time.source = .free
  · rw [settleState_free hs]
    exact freeRunAtBoundary_sound scheduled hb fun e => absurd hs e
  by_cases he : u.time.source = s.time.source
  · rw [settleState_same hs rfl he]
    obtain rfl : src = s.time.source := he
    exact ⟨h.counting, h.still, h.free, h.present, h.reference, h.scheduled, h.band, h.held, h.followed, h.began,
      h.spaced⟩
  cases hl : u.lockPresent with
  | true =>
    rw [settleState_newSource_present hs rfl he hl]
    exact alignAtBoundary_sound scheduled hl
  | false =>
    by_cases ht : u.time.timing = .tracking
    · rw [settleState_newSource_lost hs rfl he hl ht]
      exact holdAtBoundary_sound scheduled hb hs hl
    · rw [settleState_newSource_absent hs rfl he hl ht, timingSound_iff, hl]
      exact ⟨scheduled, h.counting, h.still, fun e => absurd e hs, fun _ => ⟨fun e => absurd e ht, nofun⟩,
        fun _ => hb, h.held, fun e => absurd e ht⟩

/-- A new rate leaves the time base sound under the settings then in force once step (2) has settled it (R69). -/
theorem TimingSound.settle_newRate (h : TimingSound s) (hb : s.time.nextBoundary.isSome = true)
    (hr : r ≠ s.time.rate) (src : LockSource) :
    TimingSound (settleState s.time.rate s.time.source (applyStaged r src s)) := by
  have kept := fun hs ht he hl m => h.kept_measured (src := src) (m := m) hr hs ht he hl
  have aligned : (applyStaged r src s).time.settled ≠ .align → s.time.settled ≠ .align := by
    rw [applyStaged_newRate hr]
    dsimp only
    split
    · rename_i plain; simp [plain]
    · exact id
  have scheduled := h.applyStaged_scheduled r src
  have frame := applyStaged_eq r src s
  have due : (applyStaged r src s).time.nextBoundary.isSome = true := by rw [frame]; exact hb
  have source : (applyStaged r src s).time.source = src := by rw [frame]
  have rate : (applyStaged r src s).time.rate ≠ s.time.rate := by rw [frame]; exact hr
  have timing : (applyStaged r src s).time.timing = s.time.timing := by rw [frame]
  have holdover : (applyStaged r src s).time.holdover = s.time.holdover := by rw [frame]
  rw [show s.now = (applyStaged r src s).now by rw [frame]] at scheduled
  generalize applyStaged r src s = u at *
  subst source
  by_cases hs : u.time.source = .free
  · rw [settleState_free hs]
    exact freeRunAtBoundary_sound scheduled due fun e => absurd hs e
  cases hl : u.lockPresent with
  | false =>
    rw [settleState_newRate_absent hs rate hl]
    exact freeRunAtBoundary_sound scheduled due fun _ => hl
  | true =>
    by_cases hk : u.time.timing = .tracking ∧ u.time.source = s.time.source
    · obtain ⟨ht, he⟩ := hk
      have before : s.time.timing = .tracking := timing ▸ ht
      have uncounted : u.time.timing ≠ .holdover := by simp [ht]
      rw [settleState_newRate_kept hs rate hl ht he, timingSound_iff]
      refine ⟨scheduled, fun e => absurd e uncounted, fun _ => holdover.trans (h.still (timing ▸ uncounted)),
        fun e => absurd e hs, fun _ => ⟨fun _ => hl, fun _ => ht⟩, fun e => absurd ht e, fun e => absurd e uncounted,
        fun _ ha _ => ?_⟩
      obtain ⟨m, hm⟩ := Option.isSome_iff_exists.1 (h.followed before (aligned ha) hb)
      exact Option.isSome_of_mem (kept hs before he.symm hl m hm)
    · rw [settleState_newRate_present hs rate hl hk]
      exact alignAtBoundary_sound scheduled hl

theorem TimingSound.settleStaged (h : TimingSound s) (hb : s.time.nextBoundary.isSome = true) :
    TimingSound (settleStaged s) := by
  unfold Machine.settleStaged
  split
  · exact h
  · rename_i r src _
    by_cases hr : r = s.time.rate
    · exact hr ▸ h.settle_sameRate hb src
    · exact h.settle_newRate hb hr src

end Sys2Proof.Machine
end

section
/-! ### The commands of the time base keep it sound (R63 to R69) -/

namespace Sys2Proof.Machine

variable {s t : State} {b : Ticks} {r : Rate} {src : LockSource} {i : Nat}

/-! #### What a boundary leaves of the time base -/

/-- Everything that settling the timing state can change (R69 (2)). -/
theorem settleState_eq (r : Rate) (src : LockSource) (s : State) : settleState r src s = { s with
    time := { s.time with
      timing := (settleState r src s).time.timing, measured := (settleState r src s).time.measured
      holdover := (settleState r src s).time.holdover, settled := (settleState r src s).time.settled
      freeUses := (settleState r src s).time.freeUses }
    events := (settleState r src s).events } := by
  obtain ⟨m, uses, hold, -, -⟩ := holdAtBoundary_eq s
  unfold settleState
  split
  · rw [freeRunAtBoundary_eq]
  split
  · split
    · split
      · rfl
      · rw [alignAtBoundary_eq]
    · rw [freeRunAtBoundary_eq]
  split
  · split
    · rw [alignAtBoundary_eq]
    split
    · rw [hold]
    · rfl
  · rfl

/-- Steps (1) and (2) leave the schedule and the instant (R69). -/
theorem settleStaged_schedule (s : State) : (settleStaged s).now = s.now
    ∧ (settleStaged s).time.nextBoundary = s.time.nextBoundary := by
  unfold settleStaged
  split
  · exact ⟨rfl, rfl⟩
  · rw [settleState_eq, applyStaged_eq]
    exact ⟨rfl, rfl⟩

/-! The three outcomes of step (3) (R67). -/

theorem countHoldover_uncounted (h : s.time.timing ≠ .holdover ∨ s.time.settled = .held) : countHoldover s = s := by
  rcases h with h | h <;> simp [countHoldover, h]

theorem countHoldover_expires (ht : s.time.timing = .holdover) (hs : s.time.settled ≠ .held)
    (hc : s.time.holdover ≤ 1) : countHoldover s = freeRunAtBoundary s := by
  simp [countHoldover, ht, hs, hc]

theorem countHoldover_counts (ht : s.time.timing = .holdover) (hs : s.time.settled ≠ .held)
    (hc : 1 < s.time.holdover) :
    countHoldover s = s.setTime { s.time with holdover := s.time.holdover - 1 } := by
  simp [countHoldover, ht, hs, Nat.not_le.2 hc]

/-- HOLDOVER whose count runs out gives FREE_RUN, its source being absent (R67). -/
theorem TimingSound.expires (h : TimingSound s) (ht : s.time.timing = .holdover) :
    TimingSound (freeRunAtBoundary s) := by
  have running : ¬s.time.timing = .tracking := by simp [ht]
  refine freeRunAtBoundary_sound (timingSound_iff.1 h).toScheduled (h.scheduled running) fun hs => ?_
  simpa using mt (h.present hs).2 running

theorem TimingSound.countHoldover (h : TimingSound s) (hb : s.time.nextBoundary.isSome = true) :
    TimingSound (countHoldover s) ∧ (countHoldover s).time.nextBoundary.isSome = true
      ∧ (countHoldover s).now = s.now := by
  by_cases hu : s.time.timing ≠ .holdover ∨ s.time.settled = .held
  · rw [countHoldover_uncounted hu]
    exact ⟨h, hb, rfl⟩
  · obtain ⟨ht, hs⟩ : s.time.timing = .holdover ∧ s.time.settled ≠ .held := by simpa using hu
    by_cases hc : s.time.holdover ≤ 1
    · rw [countHoldover_expires ht hs hc]
      exact ⟨h.expires ht, by rw [freeRunAtBoundary_eq]; exact hb, by rw [freeRunAtBoundary_eq]⟩
    · rw [countHoldover_counts ht hs (Nat.lt_of_not_le hc)]
      have bound := h.counting ht
      exact ⟨⟨fun _ => ⟨Nat.le_sub_one_of_lt (Nat.lt_of_not_le hc), Nat.le_trans (Nat.sub_le _ _) bound.2⟩,
        fun e => absurd ht e, h.free, h.present, h.reference, h.scheduled, h.band, h.held, h.followed, h.began,
        h.spaced⟩, hb, rfl⟩

/-- The next boundary is scheduled in every state but an aligning one, and leaves the frame as long as R62 asks. -/
theorem TimingSound.nextAfter (h : TimingSound s) (hb : s.time.nextBoundary.isSome = true) (b : Ticks) :
    (s.time.timing ≠ .tracking → (nextAfter b s).isSome = true)
      ∧ (s.time.timing = .tracking → (nextAfter b s).isSome = true → s.time.measured.isSome = true)
      ∧ ∀ x, nextAfter b s = some x → b + s.time.rate.shortest ≤ x := by
  unfold Machine.nextAfter
  cases ht : s.time.timing with
  | freeRun =>
    refine ⟨fun _ => rfl, nofun, fun x hx => ?_⟩
    cases hx
    exact Nat.add_le_add_left s.time.rate.shortest_le_period _
  | holdover =>
    refine ⟨fun _ => rfl, nofun, fun x hx => ?_⟩
    obtain ⟨m, hm⟩ := Option.isSome_iff_exists.1 (h.held ht)
    cases hx
    rw [State.period, hm]
    exact Nat.add_le_add_left (h.band m hm).1 _
  | tracking =>
    refine ⟨fun e => absurd rfl e, fun _ hn => ?_, fun x hx => ?_⟩
    · by_cases ha : s.time.settled = .align
      · simp [ha] at hn
      · exact h.followed ht ha hb
    · dsimp only at hx
      split at hx
      · cases hx
      · cases hx
        exact Nat.le_max_left _ _

/-- A boundary at its scheduled instant keeps the time base sound (R62, R65 to R67, R69). -/
theorem TimingSound.timeBoundary (h : TimingSound s) (hb : s.time.nextBoundary = some b) :
    TimingSound (timeBoundary b s) := by
  have due : (Machine.settleStaged (s.reach b)).time.nextBoundary.isSome = true := by
    rw [(settleStaged_schedule _).2]
    exact Option.isSome_of_mem hb
  obtain ⟨sound, counted, instant⟩ := ((h.reach b).settleStaged (Option.isSome_of_mem hb)).countHoldover due
  have passed : b ≤ (Machine.countHoldover (Machine.settleStaged (s.reach b))).now := by
    rw [instant, (settleStaged_schedule _).1]
    exact Nat.le_max_right _ _
  unfold Machine.timeBoundary
  dsimp only
  generalize Machine.countHoldover (Machine.settleStaged (s.reach b)) = u at *
  obtain ⟨scheduled, followed, spaced⟩ := sound.nextAfter counted b
  exact ⟨sound.counting, sound.still, sound.free, sound.present, sound.reference, scheduled, sound.band, sound.held,
    fun ht _ => followed ht, passed, fun _ => spaced⟩

/-! #### Pulses, timeouts and midway instants -/

/-- Settling presence leaves the settings, the reference record and the frame in progress (R65 to R67). -/
theorem settlePresence_time (was : Bool) (s : State) : ∃ timing measured holdover next after settled uses,
    (settlePresence was s).time = { s.time with
      timing := timing, measured := measured, holdover := holdover, nextBoundary := next, afterNext := after
      settled := settled, freeUses := uses } := by
  have follows := settlePresence_follows was s
  generalize settlePresence was s = t at follows
  by_cases gained : was = false ∧ t.lockPresent = true ∧ s.time.timing ≠ .tracking
  · exact ⟨_, _, _, _, _, _, _, (follows.gained gained.1 gained.2.1 gained.2.2).1⟩
  by_cases lost : was = true ∧ t.lockPresent = false ∧ s.time.timing = .tracking
  · obtain ⟨⟨m, -, time, -⟩, -⟩ := follows.lost lost.1 lost.2.1 lost.2.2
    exact ⟨_, _, _, _, _, _, _, time⟩
  · refine ⟨_, _, _, _, _, _, _, (follows.stays ?_).1⟩
    cases was <;> cases hl : t.lockPresent <;> simp_all

theorem settlePresence_settings (was : Bool) (s : State) : (settlePresence was s).time.source = s.time.source
    ∧ (settlePresence was s).time.rate = s.time.rate ∧ (settlePresence was s).time.refPresent = s.time.refPresent := by
  obtain ⟨_, _, _, _, _, _, _, time⟩ := settlePresence_time was s
  rw [time]
  exact ⟨rfl, rfl, rfl⟩


/-- The reference record that a pulse at `b` leaves (R63). -/
def State.pulseAt (s : State) (b : Ticks) : Pulse := ⟨b, s.time.reference.map fun p => b - p.time⟩

/-- The part once a pulse at `b` is recorded and presence is settled, before it acts as a lock point (R63, R65 to
R67). -/
def State.pulseNoted (s : State) (b : Ticks) : State :=
  settlePresence s.lockPresent ((s.reach b).setTime
    { s.time with reference := some (s.pulseAt b), refPresent := (s.pulseAt b).inBand s.time.rate })

theorem pulseNoted_settings (s : State) (b : Ticks) : (s.pulseNoted b).time.source = s.time.source
    ∧ (s.pulseNoted b).time.rate = s.time.rate
    ∧ (s.pulseNoted b).time.refPresent = (s.pulseAt b).inBand s.time.rate :=
  settlePresence_settings _ _

/-- The first pulse is recorded only (R63). -/
theorem pulse_first (hp : s.time.reference = none) (b : Ticks) : pulse b s = s.pulseNoted b := by
  have none : (s.reach b).time.reference.map (fun p => b - p.time) = none := by
    rw [show (s.reach b).time.reference = none from hp]; rfl
  simp only [pulse, none]
  simp only [State.pulseNoted, State.pulseAt, hp]
  rfl

/-- A pulse in the band is a lock point of REFERENCE; any other is recorded only (R63, R64). -/
theorem pulse_next {p : Pulse} (hp : s.time.reference = some p) (b : Ticks) : pulse b s =
    if s.time.source = .reference ∧ s.time.rate.inReferenceBand (b - p.time) = true
    then lockPoint (b - p.time) (s.pulseNoted b) else s.pulseNoted b := by
  have interval : (s.reach b).time.reference.map (fun p => b - p.time) = some (b - p.time) := by
    rw [show (s.reach b).time.reference = some p from hp]; rfl
  have record : s.pulseAt b = ⟨b, some (b - p.time)⟩ := by rw [State.pulseAt, hp]; rfl
  have unfolded : pulse b s = if (decide ((s.pulseNoted b).time.source = .reference)
      && (s.pulseAt b).inBand (s.pulseNoted b).time.rate) = true
      then lockPoint (b - p.time) (s.pulseNoted b) else s.pulseNoted b := by
    simp only [pulse, interval, State.pulseNoted, record]
    rfl
  rw [unfolded, (pulseNoted_settings s b).1, (pulseNoted_settings s b).2.1, record]
  simp only [Pulse.inBand, Bool.and_eq_true, decide_eq_true_eq]

theorem TimingSound.pulseNoted (h : TimingSound s) (b : Ticks) : TimingSound (s.pulseNoted b) := by
  refine settlePresence_sound { timingSound_iff.1 (h.reach b) with reference := fun hp => ?_ }
  refine ⟨s.pulseAt b, ?_⟩
  cases hx : (s.pulseAt b).interval with
  | none => simp [Pulse.inBand, hx] at hp
  | some x => exact ⟨x, rfl, rfl, by simpa [Pulse.inBand, hx] using hp⟩

/-- A pulse records its interval, settles presence, and is a lock point where its interval is in the band (R63, R64). -/
theorem TimingSound.pulse (h : TimingSound s) (b : Ticks) : TimingSound (pulse b s) := by
  cases hp : s.time.reference with
  | none => rw [pulse_first hp]; exact h.pulseNoted b
  | some p =>
    rw [pulse_next hp]
    split
    · rename_i hc
      refine (h.pulseNoted b).lockPoint fun _ => ?_
      rw [(pulseNoted_settings s b).2.1]
      exact Rate.reference_accepted hc.2
    · exact h.pulseNoted b

theorem TimingSound.referenceLost (h : TimingSound s) : TimingSound (referenceLost s) := by
  unfold Machine.referenceLost
  split
  · exact h
  · exact settlePresence_sound { timingSound_iff.1 (h.reach _) with reference := nofun }

theorem TimingSound.holdoverEnds (h : TimingSound s) : TimingSound (holdoverEnds s) := by
  unfold Machine.holdoverEnds
  split
  · rename_i hc
    simp only [Bool.and_eq_true, decide_eq_true_eq] at hc
    exact h.expires hc.1.1
  · exact h

/-- The lock source INPUT n is present only while the input is LOCKED on a class that the rate goes with (R64). -/
theorem input_of_lockPresent (hs : s.time.source = .input i) (hl : s.lockPresent = true) :
    (s.input i).state = .locked ∧ ∃ f, (s.input i).counted = some f ∧ s.time.rate.compatible f.rate = true := by
  simp only [State.lockPresent, hs, State.inputPresent, Bool.and_eq_true, beq_iff_eq] at hl
  obtain ⟨hk, hc⟩ := hl
  cases hf : (s.input i).counted with
  | none => simp [hf] at hc
  | some f => exact ⟨hk, f, rfl, by simpa [hf] using hc⟩

/-- A whole interval of class 50 or 60, or half of one of class 25 or 30, is a period that a compatible rate accepts
(Tables 1.2, 4.2). -/
theorem Rate.compatible_accepts {c : RateClass} {m : Ticks} (h : r.compatible c = true)
    (hm : ((c = .r25 ∨ c = .r50) ∧ 19800 * 135 ≤ m ∧ m ≤ 20200 * 135)
      ∨ ((c = .r30 ∨ c = .r60) ∧ 16500 * 135 ≤ m ∧ m ≤ 16850 * 135)) : r.shortest ≤ m ∧ m ≤ r.longest := by
  unfold Ticks at *
  cases r <;> cases c <;> simp [Rate.compatible] at h hm <;> simp only [Rate.shortest, Rate.longest, Config.us] <;>
    unfold Ticks <;> omega

/-- The band of a rate class whose frames are output periods (Table 1.2). -/
theorem rateClass_whole {x : Ticks} {c : RateClass} (h : rateClass x = some c) (hc : c = .r50 ∨ c = .r60) :
    (c = .r50 ∧ 19800 * 135 ≤ x ∧ x ≤ 20200 * 135) ∨ (c = .r60 ∧ 16500 * 135 ≤ x ∧ x ≤ 16850 * 135) := by
  unfold rateClass at h
  unfold Ticks at *
  repeat' split at h
  all_goals cases h
  all_goals simp_all [inBand, Config.us]

/-- The period that a lock point of an input measures is one that a compatible rate accepts (R64). -/
theorem Input.lockPeriod_accepted {u : Input} {f : Format} {x m : Ticks} (hm : u.lockPeriod x = some m)
    (hc : u.counted = some f) (hr : r.compatible f.rate = true) : r.shortest ≤ m ∧ m ≤ r.longest := by
  have locked : u.state = .locked := by
    by_contra h
    rw [Input.lockPeriod_unlocked h] at hm
    cases hm
  by_cases hx : rateClass x = some f.rate
  · rw [Input.lockPeriod_eq locked, Input.startClass_same hc hx] at hm
    simp only [Option.some.injEq] at hm
    refine Rate.compatible_accepts hr ?_
    split at hm
    · rename_i half
      cases hm
      rcases rateClass_band hx half with ⟨c, band⟩ | ⟨c, band⟩ <;> unfold Ticks at *
      · exact .inl ⟨.inl c, by omega⟩
      · exact .inr ⟨.inl c, by omega⟩
    · split at hm
      · rename_i whole
        cases hm
        exact (rateClass_whole hx whole).imp (fun ⟨c, band⟩ => ⟨.inr c, band⟩) fun ⟨c, band⟩ => ⟨.inr c, band⟩
      · cases hm
  · rw [Input.lockPeriod_eq locked, Input.startClass_other fun g hg => by cases hc.symm.trans hg; exact hx] at hm
    simp at hm

/-- A midway instant of a sound unit measures a period in the band of its class (R64). -/
theorem TimingSound.midway (h : TimingSound s) (hu : InputSound (s.input i)) : TimingSound (midway i s) := by
  unfold Machine.midway
  split
  · exact h
  · rename_i T half hm
    have present := lockPresent_setInput (s := s.reach T) (i := i) (v := { s.input i with midway := none }) rfl rfl
    have passed : TimingSound ((s.reach T).setInput i { s.input i with midway := none }) :=
      (h.reach T).of_present rfl (Nat.le_refl _) present
    dsimp only
    split
    · rename_i hs
      refine passed.lockPoint fun hl => ?_
      obtain ⟨-, f, hf, compatible⟩ := input_of_lockPresent (s := s) hs (present.symm.trans hl)
      obtain ⟨g, hg, band⟩ := hu.midway T half hm
      obtain rfl : f = g := Option.some.inj (hf.symm.trans hg)
      exact Rate.compatible_accepts compatible
        (band.imp (fun ⟨c, m⟩ => ⟨.inl c, m⟩) fun ⟨c, m⟩ => ⟨.inl c, m⟩)
    · exact passed

end Sys2Proof.Machine
end

section
/-! ### Every command keeps the time base sound -/

namespace Sys2Proof.Machine

variable {s t : State} {b : Ticks} {i : Nat}

/-! #### The events of an input link -/

/-- A unit that is not LOCKED before or after keeps the lock source present or absent (R64). -/
theorem lockPresent_setInput_unlocked {v : Input} (hu : (s.input i).state ≠ .locked) (hv : v.state ≠ .locked) :
    (s.setInput i v).lockPresent = s.lockPresent := by
  have present : ∀ n, (s.setInput i v).inputPresent n = s.inputPresent n := by
    intro n
    unfold State.inputPresent
    rcases look_put_cases s.inputs v Input.reset i n with ⟨rfl, e⟩ | e
    · rw [show (s.setInput n v).input n = v from e]
      rw [beq_false_of_ne hu, beq_false_of_ne hv]
      rfl
    · rw [show (s.setInput i v).input n = s.input n from e]
      rfl
  unfold State.lockPresent
  rw [show (s.setInput i v).time = s.time from rfl]
  cases s.time.source with
  | free | reference => rfl
  | input n => exact present n

/-- A unit written on a part with the same clock gives the same clock. -/
theorem clock_setInput_congr (h : t.clock = s.clock) (i : Nat) (v : Input) :
    (t.setInput i v).clock = (s.setInput i v).clock := by
  obtain ⟨hn, hi, ht⟩ := clock_eq_iff.1 h
  exact clock_eq_iff.2 ⟨hn, congrArg (put · i v) hi, ht⟩

/-- Presence is settled after an event that changed one unit (R64 to R67). -/
theorem TimingSound.settleUnit {v : Input} (h : TimingSound s) (hc : t.clock = (s.setInput i v).clock) :
    TimingSound (settlePresence s.lockPresent t) :=
  have ⟨hn, _, ht⟩ := clock_eq_iff.1 hc
  h.settle ht hn

theorem TimingSound.endFrame (h : TimingSound s) (i : Nat) (b : Ticks) (cut : Bool) (p : Picture) :
    TimingSound (endFrame i b cut p s) := by
  cases hf : (s.input i).frame with
  | none => rw [endFrame_none hf]; exact h
  | some f =>
    rcases endFrame_cases hf b cut p with ⟨-, g, -, e⟩ | ⟨-, e⟩ <;> rw [e]
    · exact h.settleUnit ((clock_goodEnd _ _ _ _ _).trans (clock_takeFrameEvent _ _ _))
    · exact h.settleUnit ((clock_takeFrameEvent _ _ _).trans (clock_setInput_congr (clock_emptied _ i s) _ _))

theorem TimingSound.startFrame (h : TimingSound s) (i : Nat) (b : Ticks) (w l : Nat) (prog : Bool) :
    TimingSound (startFrame i b w l prog s) := by
  have present : (s.frameBegun i b w l prog).lockPresent = s.lockPresent :=
    lockPresent_setInput (v := (s.input i).started b w l prog (s.startSlot i).isSome) rfl rfl
  have begun : TimingSound (s.frameBegun i b w l prog) := h.of_present rfl (Nat.le_refl _) present
  rw [startFrame_eq, State.timeAtStart]
  cases hp : (s.input i).startPeriodAt b with
  | none => exact begun
  | some period =>
    dsimp only
    split
    · rename_i tracked
      obtain ⟨hs, hl, ht⟩ := tracked
      obtain ⟨-, f, hf, compatible⟩ := input_of_lockPresent hs hl
      obtain ⟨x, -, hx⟩ := Option.bind_eq_some_iff.1 hp
      have met := begun.lockPoint fun _ => Input.lockPeriod_accepted hx hf compatible
      rw [lockPoint_eq, if_pos ⟨present.trans hl, ht⟩] at met
      exact met
    · exact begun

theorem TimingSound.frameStart (h : TimingSound s) (i : Nat) (b : Ticks) (w l : Nat) (prog : Bool) :
    TimingSound (frameStart i b w l prog s) := by
  unfold Machine.frameStart
  dsimp only
  split
  · exact h.reach b
  · exact ((h.reach b).endFrame i b true []).startFrame i b w l prog

theorem TimingSound.frameEnd (h : TimingSound s) (i : Nat) (b : Ticks) (flagged : Bool) (p : Picture) :
    TimingSound (frameEnd i b flagged p s) := by
  unfold Machine.frameEnd
  dsimp only
  split
  · exact h.reach b
  · exact (h.reach b).endFrame i b flagged p

theorem TimingSound.expireTimer (h : TimingSound s) (i : Nat) : TimingSound (expireTimer i s) := by
  unfold Machine.expireTimer
  split
  · exact h
  · exact ((h.reach _).of_clock (clock_emptied _ i _)).settleUnit (clock_takeFrameEvent i _ _)

/-! #### The requests of an input -/

theorem TimingSound.applyInputSetup (h : TimingSound s) (q : InputSetupFields) :
    TimingSound (applyInputSetup q s) := by
  unfold Machine.applyInputSetup
  dsimp only
  split
  · exact h.of_present rfl (Nat.le_refl _) (lockPresent_setInput rfl rfl)
  · rename_i ho _
    have enabled : TimingSound (s.setInput q.input { (s.input q.input).withSettings q with
        ringLength := q.ring, sequence := 0, lastStart := none, state := .searching }) :=
      h.of_present rfl (Nat.le_refl _) (lockPresent_setInput_unlocked (by simp [ho]) nofun)
    exact enabled.of_clock ((clock_raiseInput _ _ _ _ _).trans (clock_allocateRing _ _ _))
  · refine h.settleUnit (i := q.input) (v := (s.input q.input).disabled q)
      ((clock_releaseRing _ _).trans ((clock_raiseInput _ _ _ _ _).trans ?_))
    exact clock_setInput_congr (clock_emptied _ q.input s) _ _
  · exact h.of_present rfl (Nat.le_refl _) (lockPresent_setInput rfl rfl)

theorem TimingSound.requestInputSetup (h : TimingSound s) (tag : Byte) (q : InputSetupFields) :
    TimingSound (requestInputSetup tag q s) := by
  unfold Machine.requestInputSetup
  split
  · exact h.of_clock (clock_answer _ _ _ s)
  · exact (h.applyInputSetup q).of_clock (clock_answer _ _ _ _)

theorem TimingSound.resetInput (h : TimingSound s) (i : Nat) : TimingSound (resetInput i s) := by
  refine h.settleUnit (i := i) (v := (s.input i).searchingAnew) ((clock_failGrab _ _ _).trans
    ((clock_unfreezeAll _ _).trans ((clock_markStale _ _).trans ((clock_raiseInput _ _ _ _ _).trans ?_))))
  exact clock_setInput_congr (clock_emptied _ i s) _ _

theorem TimingSound.requestInputReset (h : TimingSound s) (tag : Byte) (i : Nat) :
    TimingSound (requestInputReset tag i s) := by
  unfold Machine.requestInputReset
  split
  · exact h.of_clock (clock_answer _ _ _ s)
  · exact (h.of_clock (clock_enterTable tag (.reset i) s)).resetInput i

theorem TimingSound.requestInputQuery (h : TimingSound s) (tag : Byte) (i clear : Nat) :
    TimingSound (requestInputQuery tag i clear s) := by
  have answered := fun data => h.of_clock (clock_answerData tag 0x12 data s)
  unfold Machine.requestInputQuery
  dsimp only
  split
  · split
    · exact (answered _).of_present rfl (Nat.le_refl _) (lockPresent_setInput rfl rfl)
    · exact answered _
  · exact h.of_clock (clock_answer _ _ _ s)

/-! #### The other requests -/

/-- Timing Setup stages only (R68). -/
theorem TimingSound.requestTimingSetup (h : TimingSound s) (tag : Byte) (rate source input : Nat) :
    TimingSound (requestTimingSetup tag rate source input s) := by
  unfold Machine.requestTimingSetup
  split
  · exact ⟨h.counting, h.still, h.free, h.present, h.reference, h.scheduled, h.band, h.held, h.followed, h.began,
      h.spaced⟩
  · exact h.of_clock (clock_answer _ _ _ s)

theorem clock_requestGrab (tag : Byte) (i e : Nat) (s : State) : (requestGrab tag i e s).clock = s.clock := by
  unfold requestGrab
  split <;> simp

theorem clock_requestDrop (tag : Byte) (e : Nat) (s : State) : (requestDrop tag e s).clock = s.clock := by
  unfold requestDrop
  split
  · rfl
  · split <;> simp

theorem clock_requestWindowStage (tag : Byte) (q : WindowStageFields) (s : State) :
    (requestWindowStage tag q s).clock = s.clock := by
  unfold requestWindowStage
  split <;> simp

theorem clock_requestSceneStage (tag : Byte) (q : SceneStageFields) (s : State) :
    (requestSceneStage tag q s).clock = s.clock := by
  unfold requestSceneStage
  split <;> simp

theorem clock_requestBind (tag : Byte) (w k : Nat) (s : State) : (requestBind tag w k s).clock = s.clock := by
  unfold requestBind
  split <;> simp

theorem clock_requestUnbind (tag : Byte) (w : Nat) (s : State) : (requestUnbind tag w s).clock = s.clock := by
  unfold requestUnbind
  split
  · rfl
  · split <;> simp

theorem clock_requestFreeze (tag : Byte) (w f : Nat) (s : State) : (requestFreeze tag w f s).clock = s.clock := by
  unfold requestFreeze
  split <;> simp

theorem clock_requestTakeFrame (tag : Byte) (k : Nat) (s : State) : (requestTakeFrame tag k s).clock = s.clock := by
  unfold requestTakeFrame
  split <;> simp

theorem clock_requestTakeNow (tag : Byte) (k : Nat) (s : State) : (requestTakeNow tag k s).clock = s.clock := by
  unfold requestTakeNow
  dsimp only
  split
  · rfl
  · split <;> simp

theorem clock_requestPortSetup (tag : Byte) (q : PortSetupFields) (s : State) :
    (requestPortSetup tag q s).clock = s.clock := by
  unfold requestPortSetup
  split <;> simp

theorem clock_requestHold (tag : Byte) (n : Nat) (s : State) : (requestHold tag n s).clock = s.clock := by
  unfold requestHold
  split
  · rfl
  · split <;> simp

theorem clock_requestResume (tag : Byte) (n : Nat) (s : State) : (requestResume tag n s).clock = s.clock := by
  unfold requestResume
  split <;> simp

theorem clock_requestAssignFrame (tag : Byte) (n k : Nat) (s : State) :
    (requestAssignFrame tag n k s).clock = s.clock := by
  unfold requestAssignFrame
  split <;> simp

theorem clock_requestAssignNow (tag : Byte) (n k : Nat) (s : State) : (requestAssignNow tag n k s).clock = s.clock := by
  unfold requestAssignNow
  split <;> simp

theorem clock_requestStoreQuery (tag : Byte) (v i : Nat) (s : State) : (requestStoreQuery tag v i s).clock = s.clock :=
  clock_ite rfl rfl

theorem clock_requestWindowQuery (tag : Byte) (w : Nat) (s : State) : (requestWindowQuery tag w s).clock = s.clock :=
  clock_ite rfl rfl

theorem clock_requestSceneQuery (tag : Byte) (k : Nat) (s : State) : (requestSceneQuery tag k s).clock = s.clock :=
  clock_ite rfl rfl

theorem clock_requestPortQuery (tag : Byte) (n : Nat) (s : State) : (requestPortQuery tag n s).clock = s.clock :=
  clock_ite rfl rfl

theorem clock_requestEventEnable (tag : Byte) (es ms : List Nat) (s : State) :
    (requestEventEnable tag es ms s).clock = s.clock := clock_ite rfl rfl

theorem clock_requestEventAck (tag : Byte) (event inst : Nat) (s : State) :
    (requestEventAck tag event inst s).clock = s.clock := clock_ite rfl rfl

theorem clock_requestDeviceQuery (tag : Byte) (clear : Nat) (s : State) :
    (requestDeviceQuery tag clear s).clock = s.clock := clock_ite (clock_ite rfl rfl) rfl

theorem clock_requestDeviceReset (tag : Byte) (s : State) : (requestDeviceReset tag s).clock = s.clock := rfl

/-- Whatever its owner does with a request keeps the time base sound (R151). -/
theorem TimingSound.handOver (h : TimingSound s) (c : Instr) : TimingSound (handOver c s) := by
  cases c with
  | inputSetup tag q => exact h.requestInputSetup tag q
  | inputReset tag i => exact h.requestInputReset tag i
  | inputQuery tag i clear => exact h.requestInputQuery tag i clear
  | timingSetup tag r src i => exact h.requestTimingSetup tag r src i
  | windowStage tag q => exact h.of_clock (clock_requestWindowStage tag q s)
  | sceneStage tag q => exact h.of_clock (clock_requestSceneStage tag q s)
  | stillGrab tag i e => exact h.of_clock (clock_requestGrab tag i e s)
  | stillDrop tag e => exact h.of_clock (clock_requestDrop tag e s)
  | storeQuery tag v i => exact h.of_clock (clock_requestStoreQuery tag v i s)
  | windowBind tag w k => exact h.of_clock (clock_requestBind tag w k s)
  | windowUnbind tag w => exact h.of_clock (clock_requestUnbind tag w s)
  | windowFreeze tag w f => exact h.of_clock (clock_requestFreeze tag w f s)
  | windowQuery tag w => exact h.of_clock (clock_requestWindowQuery tag w s)
  | sceneTakeFrame tag k => exact h.of_clock (clock_requestTakeFrame tag k s)
  | sceneTakeNow tag k => exact h.of_clock (clock_requestTakeNow tag k s)
  | sceneQuery tag k => exact h.of_clock (clock_requestSceneQuery tag k s)
  | portSetup tag q => exact h.of_clock (clock_requestPortSetup tag q s)
  | portAssignFrame tag n k => exact h.of_clock (clock_requestAssignFrame tag n k s)
  | portAssignNow tag n k => exact h.of_clock (clock_requestAssignNow tag n k s)
  | portHold tag n => exact h.of_clock (clock_requestHold tag n s)
  | portResume tag n => exact h.of_clock (clock_requestResume tag n s)
  | portQuery tag n => exact h.of_clock (clock_requestPortQuery tag n s)
  | eventEnable tag es ms => exact h.of_clock (clock_requestEventEnable tag es ms s)
  | eventAck tag e i => exact h.of_clock (clock_requestEventAck tag e i s)
  | deviceQuery tag clear => exact h.of_clock (clock_requestDeviceQuery tag clear s)
  | deviceReset tag => exact h.of_clock (clock_requestDeviceReset tag s)
  | unknownKind tag kind q => exact h.of_clock (clock_answer tag kind .unknownKind s)
  | _ => exact h

/-! #### Dispatch, the receiver and the transmitter -/

theorem TimingSound.dispatchFrame (h : TimingSound s) (f : Frame) : TimingSound (dispatchFrame f s) := by
  unfold Machine.dispatchFrame
  split
  · exact h.of_clock (clock_answer _ _ _ (reservePlace s))
  · exact (h.of_clock (clock_reservePlace s)).handOver _

theorem TimingSound.drain (n : Nat) : ∀ {s : State}, TimingSound s → TimingSound (drain n s) := by
  induction n with
  | zero => exact id
  | succ n ih =>
    intro s h
    unfold Machine.drain
    split
    · exact h
    · split
      · exact ih ((h.of_clock (clock_setLink _ s)).dispatchFrame _)
      · exact h

theorem TimingSound.drainQueue (h : TimingSound s) : TimingSound (drainQueue s) := h.drain _

theorem TimingSound.arrive (h : TimingSound s) (c : Instr) : TimingSound (arrive c (Machine.handOver c) s) := by
  unfold Machine.arrive
  split
  · exact (h.of_clock (clock_reservePlace s)).handOver c
  · split
    · exact h.of_clock (clock_queueFrame _ s)
    · exact h

theorem TimingSound.receive (h : TimingSound s) (b : Ticks) (x : Byte) : TimingSound (receive b x s) := by
  have into := fun r => h.of_clock (t := receiveInto b r s) (clock_setLink _ s)
  have discarded := h.of_clock (clock_discard s)
  unfold Machine.receive
  split
  · split
    · exact into _
    · exact h
  · split
    · exact into _
    · exact discarded
  · exact into _
  · exact into _
  · split
    · exact (h.of_clock ((clock_queueFrame _ (hunt s)).trans (clock_setLink _ s))).drainQueue
    · exact discarded

theorem TimingSound.beginSending (h : TimingSound s) : TimingSound (beginSending s) := by
  unfold Machine.beginSending
  split
  · exact h
  · exact (h.of_clock (clock_setLink _ s)).drainQueue
  · split
    · exact h.of_clock rfl
    · exact h

/-- A part-wide reset leaves the time base as a reset does (Table 4.1, R60). -/
theorem timingSound_resetPart (b : Ticks) (es : List Entry) (s : State) : TimingSound (resetPart b es s) where
  counting := nofun
  still _ := rfl
  free _ := rfl
  present h := absurd rfl h
  reference := nofun
  scheduled _ := rfl
  band := nofun
  held := nofun
  followed := nofun
  began := Nat.le_refl _
  spaced _ x hx := by
    cases hx
    exact Nat.add_le_add_left (show Rate.r60.shortest ≤ 2250000 by decide) b

theorem TimingSound.finishSending (h : TimingSound s) (b : Ticks) : TimingSound (finishSending b s) := by
  unfold Machine.finishSending
  split
  · exact timingSound_resetPart _ _ _
  · split
    · exact (h.reach b).of_clock (clock_setLink _ _)
    · exact h

/-! #### The boundary and the lines -/

theorem TimingSound.takeBoundary (h : TimingSound s) (hb : s.time.nextBoundary = some b) :
    TimingSound (takeBoundary b s) :=
  (h.timeBoundary hb).of_clock (clock_takeBoundary b s)

theorem TimingSound.startLine (h : TimingSound s) : TimingSound (startLine s) := by
  unfold Machine.startLine
  split
  · exact (h.reach _).of_clock rfl
  · exact h

/-! #### Every command -/

/-- An event keeps what it keeps when it has its effect; under the RESET line nothing happens (R157). -/
theorem running_keeps {P : State → Prop} {f : State → State} (hs : P s) (hf : P (f s))
    (h : whenRunning s f = .next t) : P t := by
  rw [whenRunning_next.1 h]
  split
  · exact hs
  · exact hf

/-- Every command keeps the time base sound. -/
theorem exec_timingSound {c : Instr} (hi : InputsSound s) (hs : TimingSound s) (h : exec c s = .next t) :
    TimingSound t := by
  have same : ∀ {f : State → State}, (f s).clock = s.clock → whenRunning s f = .next t → TimingSound t :=
    fun hc => running_keeps hs (hs.of_clock hc)
  cases c with
  | inputSetup | inputReset | inputQuery | stillGrab | stillDrop | storeQuery | windowBind | windowUnbind | windowStage
  | windowFreeze | windowQuery | sceneStage | sceneTakeFrame | sceneTakeNow | sceneQuery | portSetup
  | portAssignFrame | portAssignNow | portHold | portResume | portQuery | timingSetup | eventEnable | eventAck
  | deviceQuery | deviceReset => exact running_keeps hs (hs.arrive _) h
  | unknownKind tag kind q =>
    simp only [exec, execUnknownKind] at h
    refine running_keeps hs ?_ h
    exact (hs.of_clock (clock_queueFrame _ s)).drainQueue
  | resetLineAssert =>
    injection h with h
    rw [← h]
    split
    · exact hs
    · exact timingSound_resetPart _ _ _
  | resetLineDeassert b =>
    injection h with h
    rw [← h]
    split
    · exact timingSound_resetPart _ _ _
    · exact hs
  | deviceResetExecute b =>
    refine running_keeps hs ?_ h
    split
    · exact timingSound_resetPart _ _ _
    · exact hs
  | overrideAssert line | overrideDeassert line =>
    injection h with h
    rw [← h]
    exact hs.of_clock (clock_ite (clock_setLine _ _ s) (clock_moveLine _ _ s))
  | frameStart i b w l prog => exact running_keeps hs (hs.frameStart i b w l prog) h
  | frameEnd i b flagged q => exact running_keeps hs (hs.frameEnd i b flagged q) h
  | lossOfSignal i b => exact running_keeps hs (hs.frameEnd i b true []) h
  | missingFrameTimerExpiry i => exact running_keeps hs (hs.expireTimer i) h
  | stillGrabComplete i b q =>
    refine running_keeps hs ?_ h
    split
    · exact hs.frameEnd i b false q
    · exact hs
  | grabTimeout i => exact same (clock_ite (clock_failGrab _ _ s) rfl) h
  | inputResetComplete i => exact same (clock_endWhere _ _ s) h
  | outputFrameBoundary =>
    simp only [exec, execOutputFrameBoundary] at h
    refine running_keeps hs ?_ h
    split
    · rename_i hb
      exact hs.takeBoundary hb
    · exact hs
  | outputLineStart => exact running_keeps hs hs.startLine h
  | timingSetupApply =>
    simp only [exec, execTimingSetupApply] at h
    refine running_keeps hs ?_ h
    split
    · rename_i hb _
      exact (hs.reach _).settleStaged (Option.isSome_of_mem hb)
    all_goals exact hs
  | sceneTakeApply k =>
    simp only [exec, execSceneTakeApply] at h
    refine same ?_ h
    split <;> simp
  | portAssignComplete n =>
    simp only [exec, execPortAssignComplete] at h
    refine same ?_ h
    split <;> simp
  | freezeOrderOn w =>
    have carried := clock_carryOutFreeze s w
    exact same (clock_ite (clock_ite ((clock_pinWindow _ _ _).trans carried) carried) rfl) h
  | freezeOrderOff w => exact same (clock_ite (clock_carryOutFreeze s _) rfl) h
  | deadFramesEnd w | mixEnd w =>
    simp only [exec, execDeadFramesEnd, execMixEnd] at h
    refine same ?_ h
    split
    · exact clock_ite rfl rfl
    all_goals rfl
  | tourExpiry w => exact same (clock_ite (clock_expireTour _ s) rfl) h
  | referencePulse b => exact running_keeps hs (hs.pulse b) h
  | referenceTimeout => exact running_keeps hs hs.referenceLost h
  | lockPointMidway i => exact running_keeps hs (hs.midway (hi i i.isLt)) h
  | holdoverExpiry => exact running_keeps hs hs.holdoverEnds h
  | byteReceived b x =>
    simp only [exec, execByteReceived] at h
    refine running_keeps hs ?_ h
    exact (hs.reach b).receive b x
  | gapTimerExpiry =>
    simp only [exec, execGapTimerExpiry] at h
    refine running_keeps hs ?_ h
    split
    · exact (hs.reach _).of_clock (clock_discard _)
    · exact hs
  | transmitStart => exact running_keeps hs hs.beginSending h
  | transmitComplete b => exact running_keeps hs (hs.finishSending b) h

/-- Settles O12: a step idles, or its command keeps the time base sound. -/
theorem timingStaysSound : Obligations.TimingStaysSound := by
  intro s t hi hs h
  unfold step at h
  split at h
  · injection h with h
    exact h ▸ hs
  · rename_i c rest _
    have sound : TimingSound { s with pending := rest } := hs.of_clock rfl
    exact exec_timingSound (show InputsSound { s with pending := rest } from hi) sound h

end Sys2Proof.Machine
end

section
/-! ### The time base command by command (R62 to R68) -/

namespace Sys2Proof.Machine

variable {s t : State} {b T period : Ticks} {tag : Byte} {i : Nat}

/-! #### Timing Setup (R68, R69) -/

/-- Staged settings put in force and settled, as one operation (R69 (1), (2)). -/
theorem settleStaged_some {r : Rate} {src : LockSource} (h : s.time.staged = some (r, src)) :
    settleStaged s = settleState s.time.rate s.time.source (applyStaged r src s) := by
  unfold settleStaged
  simp only [h]

theorem settleStaged_none (h : s.time.staged = none) : settleStaged s = s := by
  unfold settleStaged
  simp only [h]

/-- TIMING_SETUP_APPLY with settings staged and a boundary scheduled (R69; log entry 2). -/
theorem exec_timingSetupApply (hr : s.resetLine = false) (hb : s.time.nextBoundary = some b)
    (hs : s.time.staged.isSome = true) : exec .timingSetupApply s = .next (settleStaged (s.reach b)) := by
  obtain ⟨x, hx⟩ := Option.isSome_iff_exists.1 hs
  simp only [exec, execTimingSetupApply]
  rw [whenRunning_run hr]
  simp only [hb, hx]

/-- In FREE_RUN with no count there is nothing for FREE_RUN to change (R65, R67). -/
theorem freeRunAtBoundary_idle (ht : s.time.timing = .freeRun) (hc : s.time.holdover = 0) :
    freeRunAtBoundary s = s := by
  rw [freeRunAtBoundary_eq, if_pos ht, ← ht, ← hc]

/-- Staged settings equal to those in force are taken off the stage and change nothing else (R69). -/
theorem settleStaged_equal (h : TimingSound s) (hs : s.time.staged = some (s.time.rate, s.time.source)) :
    settleStaged s = { s with time := { s.time with staged := none } } := by
  rw [settleStaged_some hs, applyStaged_sameRate rfl]
  let u : State := { s with time := { s.time with staged := none } }
  show settleState u.time.rate u.time.source u = u
  by_cases free : u.time.source = .free
  · have running : u.time.timing = .freeRun := h.free free
    have uncounted : u.time.timing ≠ .holdover := by simp [running]
    rw [settleState_free free, freeRunAtBoundary_idle running (h.still uncounted)]
  · exact settleState_same free rfl rfl

/-- Settles O48: the ranges decide the refusal, and an accepted setup writes `staged` only. -/
theorem timingSetupOnlyStages : Obligations.TimingSetupOnlyStages := by
  refine ⟨fun b s hr hb h hs => ?_, fun tag rate source input s ready => ⟨fun out => ?_, fun hr hs hi => ?_⟩⟩
  · rw [exec_timingSetupApply hr hb (Option.isSome_of_mem hs)]
    exact congrArg _ (settleStaged_equal (h.reach b) hs)
  · refine request_answered ready ?_
    rw [requestTimingSetup, if_neg (by simp only [Bool.and_eq_true, decide_eq_true_eq]; omega)]
  · refine (request_ready ready _ _).trans ?_
    rw [requestTimingSetup, if_pos (by simp [hr, hs, hi])]
    refine congrArg _ ((answer_reserved tag 0x38 .done (s.setTime _)).trans ?_)
    have rate : rateOf rate = if rate = 0 then .r50 else if rate = 1 then .r5994 else .r60 := by
      unfold rateOf
      split <;> simp_all
    have source : lockSourceOf source input =
        if source = 0 then .free else if source = 1 then .reference else .input input := by
      unfold lockSourceOf
      split <;> simp_all
    rw [rate, source]
    rfl

/-! #### Lines (R62, R117) -/

/-- What the compositor gives does not depend on what the ports last sent. -/
theorem scenePixel_ports (ports : Vector Port 12) (n k x y : Nat) (s : State) :
    scenePixel { s with ports := ports, nextLine := n } k x y = scenePixel s k x y := rfl

theorem stillPixel_ports (ports : Vector Port 12) (n p x y : Nat) (s : State) :
    stillPixel { s with ports := ports, nextLine := n } p x y = stillPixel s p x y := rfl

/-- The part at the start time of the next line (R62). -/
def State.atLine (s : State) : State := s.reach (s.time.frameBegan + s.nextLine * (s.time.rate.period / 1125))

/-- Once a line has started each port has sent the line of its picture (R62, R132). -/
theorem startLine_eq (h : s.nextLine < 1080) : startLine s = { s.atLine with
    nextLine := s.nextLine + 1
    ports := s.ports.mapIdx fun p x => { x with line := sentLine s.atLine p s.nextLine } } := if_pos h

theorem startLine_port (h : s.nextLine < 1080) {p : Nat} (hp : p < 12) :
    (startLine s).port p = { s.port p with line := sentLine s.atLine p s.nextLine } := by
  rw [startLine_eq h]
  exact look_mapIdx s.ports _ Port.reset hp

/-- The line that a port sends, by its state (R62, R117, R127, R128, R132). -/
theorem sentLine_disabled {p y : Nat} (h : (s.port p).state = .disabled) : sentLine s p y = none := if_pos h

theorem sentLine_enabled {p y : Nat} (h : (s.port p).state ≠ .disabled) : sentLine s p y = some ⟨y,
    (List.range 1920).map fun x => convert (s.port p) (showingPixel s p x y)⟩ := if_neg h

/-- Settles O46: the line's instant, and each port's picture read off `showingPixel`. -/
theorem linesStartAtTheirSpacing : Obligations.LinesStartAtTheirSpacing := by
  intro s hr
  have run : exec .outputLineStart s = .next (startLine s) := whenRunning_run hr
  refine ⟨fun blank => run.trans (congrArg _ (if_neg (Nat.not_lt.2 blank))), fun hn => ⟨startLine s, run, ?_, ?_⟩⟩
  · rw [startLine_eq hn]
    rfl
  intro p hp
  have scene : ∀ k x, scenePixel (startLine s) k x s.nextLine = scenePixel s.atLine k x s.nextLine := fun k x => by
    rw [startLine_eq hn]
    exact scenePixel_ports _ _ k x _ s.atLine
  have still : ∀ x, stillPixel (startLine s) p x s.nextLine = stillPixel s.atLine p x s.nextLine := fun x => by
    rw [startLine_eq hn]
    exact stillPixel_ports _ _ p x _ s.atLine
  rw [startLine_port hn hp]
  have port : s.atLine.port p = s.port p := rfl
  generalize s.atLine = u at *
  refine ⟨fun off => ?_, fun on =>
    ⟨(List.range 1920).map fun x => convert (s.port p) (showingPixel u p x s.nextLine), ?_, by simp, fun x hx => ?_⟩⟩
  · rw [sentLine_disabled (port ▸ off)]
  · rw [sentLine_enabled (port ▸ on), port]
  · have pixel : ((List.range 1920).map fun x => convert (s.port p) (showingPixel u p x s.nextLine))[x]?
        = some (convert (s.port p) (showingPixel u p x s.nextLine)) := by simp [hx]
    rw [pixel]
    refine ⟨fun shows => ?_, fun k shows => ?_, fun e shows => ?_⟩
    · simp only [showingPixel, port, shows]
    · simp only [showingPixel, port, shows, scene]
    · simp only [showingPixel, port, shows, still]

end Sys2Proof.Machine
end

section
/-! ### Pulses, timeouts and midway instants as commands (R63 to R67) -/

namespace Sys2Proof.Machine

variable {s t : State} {T period : Ticks} {i : Nat}

/-! #### A reference pulse -/

/-- A pulse touches the instant, the time base and the event unit only (R63). -/
theorem pulseNoted_frame (s : State) (T : Ticks) : s.pulseNoted T = { s with
    now := max s.now T, time := (s.pulseNoted T).time, events := (s.pulseNoted T).events } := by
  unfold State.pulseNoted
  rw [settlePresence_eq]
  rfl

theorem pulse_frame (T : Ticks) (s : State) : pulse T s = { s with
    now := max s.now T, time := (pulse T s).time, events := (pulse T s).events } := by
  have noted := pulseNoted_frame s T
  cases hp : s.time.reference with
  | none => rw [pulse_first hp]; exact noted
  | some p =>
    rw [pulse_next hp]
    split
    · rw [lockPoint_eq]
      generalize s.pulseNoted T = u at *
      rw [noted]
    · exact noted

/-- What a pulse that leaves the record `p` brings before it acts as a lock point (R63, R65 to R67). -/
theorem pulseNoted_follows {p : Pulse} {inBand : Bool} (hp : s.pulseAt T = p) (hb : p.inBand s.time.rate = inBand) :
    TimeFollows s.lockPresent { s.time with reference := some p, refPresent := inBand } s.events (s.pulseNoted T) := by
  subst hp hb
  exact settlePresence_follows_of _ rfl rfl

theorem pulseAt_next {p : Pulse} (hp : s.time.reference = some p) (T : Ticks) :
    s.pulseAt T = ⟨T, some (T - p.time)⟩ := by
  rw [State.pulseAt, hp]
  rfl

/-- Presence of REFERENCE is no matter to another lock source (R63, R64). -/
theorem pulseNoted_lockPresent (hs : s.time.source ≠ .reference) : (s.pulseNoted T).lockPresent = s.lockPresent := by
  obtain ⟨source, rate, -⟩ := pulseNoted_settings s T
  have input : ∀ n, (s.pulseNoted T).input n = s.input n := fun n => by rw [pulseNoted_frame]; rfl
  unfold State.lockPresent State.inputPresent
  rw [source, rate]
  cases h : s.time.source with
  | free => rfl
  | reference => exact absurd h hs
  | input n => simp only [input]

/-- With REFERENCE as the lock source its presence is that of the lock source (R63). -/
theorem lockPresent_reference (hs : s.time.source = .reference) : s.lockPresent = s.time.refPresent := by
  simp only [State.lockPresent, hs]

/-- Settles O50: the record and presence first, then the lock point where the time base tracks REFERENCE. -/
theorem referencePulseSetsPresence : Obligations.ReferencePulseSetsPresence := by
  intro T s hr now
  have run : exec (.referencePulse T) s = .next (pulse T s) := whenRunning_run hr
  refine ⟨pulse T s, run, pulse_frame T s, fun hp => ?_, fun p hp out => ?_, fun p hp within => ?_⟩
  · rw [pulse_first hp]
    exact pulseNoted_follows (by rw [State.pulseAt, hp]; rfl) rfl
  · rw [pulse_next hp, if_neg (by simp [out])]
    exact pulseNoted_follows (pulseAt_next hp T) out
  intro noted
  have follows : TimeFollows s.lockPresent noted s.events (s.pulseNoted T) :=
    pulseNoted_follows (pulseAt_next hp T) within
  have instant : (s.pulseNoted T).now = now := by rw [pulseNoted_frame]
  have found : s.time.source = .reference → (s.pulseNoted T).lockPresent = true := fun hs => by
    rw [lockPresent_reference ((pulseNoted_settings s T).1.trans hs), (pulseNoted_settings s T).2.2, pulseAt_next hp]
    exact within
  have met : s.time.source = .reference → (s.pulseNoted T).time.timing = .tracking →
      (pulse T s).time = (s.pulseNoted T).time.meet now (T - p.time)
        ∧ (pulse T s).events = (s.pulseNoted T).events := fun hs ht => by
    rw [pulse_next hp, if_pos ⟨hs, within⟩, lockPoint_eq, if_pos ⟨found hs, ht⟩, ← instant]
    exact ⟨rfl, rfl⟩
  refine ⟨fun hs => ?_, fun hs ht => ?_, fun hs ht absent => ?_, fun hs ht present => ?_⟩
  · rw [pulse_next hp, if_neg fun h => hs h.1]
    exact follows.stays (.inl (pulseNoted_lockPresent hs).symm)
  · obtain ⟨time, events⟩ := follows.stays (by cases hl : s.lockPresent <;> simp [found hs, noted, ht])
    obtain ⟨schedule, raised⟩ := met hs (by rw [time]; exact ht)
    rw [schedule, raised, time]
    exact ⟨meet_taken _ _ _, events⟩
  · obtain ⟨time, events⟩ := follows.gained ((lockPresent_reference hs).trans absent) (found hs) ht
    obtain ⟨schedule, raised⟩ := met hs (by rw [time])
    rw [schedule, raised, time]
    exact ⟨meet_taken _ _ _, events⟩
  · obtain ⟨time, events⟩ := follows.stays
      (.inl (((lockPresent_reference hs).trans present).trans (found hs).symm))
    rw [pulse_next hp, if_pos ⟨hs, within⟩, lockPoint_eq, if_neg fun h => ht (by rw [← h.2, time])]
    exact ⟨time, events⟩

/-! #### The events at an instant of their own -/

theorem referenceLost_some {p : Pulse} (hp : s.time.reference = some p) : referenceLost s = settlePresence s.lockPresent
    ((s.reach (p.time + 3 * s.time.rate.period / 2)).setTime { s.time with refPresent := false }) := by
  unfold referenceLost
  split
  · rename_i none
    cases none.symm.trans hp
  · rename_i q some
    cases some.symm.trans hp
    rfl

/-- The part once a midway instant of input `i` has passed, before it acts as a lock point (R64). -/
def State.midwayPassed (s : State) (i : Nat) (T : Ticks) : State :=
  (s.reach T).setInput i { s.input i with midway := none }

theorem midwayPassed_lockPresent : (s.midwayPassed i T).lockPresent = s.lockPresent :=
  lockPresent_setInput (s := s.reach T) rfl rfl

/-- A midway instant of the lock source, present in TRACKING, is a lock point; any other passes (R64). -/
theorem midway_some (hm : (s.input i).midway = some (T, period)) : midway i s = { s.midwayPassed i T with
    time := if s.time.source = .input i ∧ s.lockPresent = true ∧ s.time.timing = .tracking
      then s.time.meet (max s.now T) period else s.time } := by
  have unfolded : midway i s = if s.time.source = .input i then lockPoint period (s.midwayPassed i T)
      else s.midwayPassed i T := by
    unfold midway
    simp only [hm]
    rfl
  rw [unfolded]
  by_cases hs : s.time.source = .input i
  · simp only [hs, if_true, true_and, lockPoint_eq, midwayPassed_lockPresent]
    rfl
  · simp only [hs, if_false, false_and]
    rfl

theorem holdoverEnds_eq (ht : s.time.timing = .holdover) (hc : s.time.holdover ≤ 1) (hs : s.time.settled ≠ .held) :
    holdoverEnds s = freeRunAtBoundary s := by
  simp [holdoverEnds, ht, hc, hs]

/-- Settles O51: each event by the one operation that it is. -/
theorem scheduledTimingEventsAct : Obligations.ScheduledTimingEventsAct := by
  intro s hr
  refine ⟨fun p hp => ⟨referenceLost s, whenRunning_run hr, ?_, ?_⟩, fun i T half hm =>
    ⟨midway i.val s, whenRunning_run hr, ?_, ?_, ?_⟩, fun ht hc hs => ?_⟩
  · rw [referenceLost_some hp, settlePresence_eq]
    rfl
  · rw [referenceLost_some hp]
    exact settlePresence_follows_of _ rfl rfl
  · rw [midway_some hm]
    rfl
  · intro hs hl ht
    rw [midway_some hm, if_pos ⟨hs, hl, ht⟩]
    exact meet_taken _ _ _
  · intro other
    rw [midway_some hm, if_neg]
    rintro ⟨hs, hl, ht⟩
    simp [hs, hl, ht] at other
  · refine (whenRunning_run hr).trans ?_
    rw [holdoverEnds_eq ht hc hs, freeRunAtBoundary_eq, if_neg (by simp [ht])]

end Sys2Proof.Machine
end

section
/-! ### Staged settings and the boundary as commands (R65 to R70) -/

namespace Sys2Proof.Machine

variable {s t u : State} {b c m : Ticks} {r : Rate} {src : LockSource}

/-! #### What each branch of step (2) makes of staged settings -/

theorem applyStaged_settings (r : Rate) (src : LockSource) (s : State) : (applyStaged r src s).time.source = src
    ∧ (applyStaged r src s).time.rate = r ∧ (applyStaged r src s).time.timing = s.time.timing
    ∧ (applyStaged r src s).time.holdover = s.time.holdover := by
  rw [applyStaged_eq]
  exact ⟨rfl, rfl, rfl, rfl⟩

/-- A new rate: presence of REFERENCE by its record, and the measured period of a source tracked on (R63; log entry
32). -/
theorem applyStaged_newRate_fields (hr : r ≠ s.time.rate) :
    (applyStaged r src s).time.refPresent = referencePresence r s.now s.time.reference
      ∧ (applyStaged r src s).time.settled = (if s.time.settled = .plain then .newRate else s.time.settled)
      ∧ (applyStaged r src s).time.measured =
        if (s.time.timing = .tracking ∧ s.time.source = src) ∧ (applyStaged r src s).lockPresent = true
        then s.time.measured.filter r.accepts else none := by
  have e := applyStaged_newRate (src := src) hr
  generalize (applyStaged r src s).lockPresent = present at *
  rw [e]
  exact ⟨rfl, rfl, rfl⟩

theorem applyStaged_sameRate_fields (hr : r = s.time.rate) :
    (applyStaged r src s).time.refPresent = s.time.refPresent ∧ (applyStaged r src s).time.settled = s.time.settled
      ∧ (applyStaged r src s).time.measured = s.time.measured := by
  rw [applyStaged_sameRate hr]
  exact ⟨rfl, rfl, rfl⟩

/-- REFERENCE is present under a new rate by a last interval in its band, at most 1.5 nominal periods ago (R63). -/
theorem referencePresence_iff {now : Ticks} {o : Option Pulse} : referencePresence r now o = true ↔
    ∃ p x, o = some p ∧ p.interval = some x ∧ r.inReferenceBand x = true ∧ 2 * (now - p.time) ≤ 3 * r.period := by
  cases o with
  | none => simp [referencePresence]
  | some p => cases hx : p.interval <;> simp [referencePresence, Pulse.inBand, Pulse.recent, hx]

/-- TIMING is raised exactly where the timing state changed (R70). -/
structure TimingRaised (s t : State) : Prop where
  same : t.time.timing = s.time.timing → t.events = s.events
  changed : t.time.timing ≠ s.time.timing → t.events = s.events.raised (.timing t.time.timing)

theorem TimingRaised.refl (s : State) : TimingRaised s s := ⟨fun _ => rfl, fun e => absurd rfl e⟩

theorem TimingRaised.of_entered {x : Timing} (ht : t.time.timing = x)
    (he : t.events = if s.time.timing = x then s.events else s.events.raised (.timing x)) : TimingRaised s t := by
  subst ht
  exact ⟨fun e => by rw [he, if_pos e.symm], fun e => by rw [he, if_neg (Ne.symm e)]⟩

theorem freeRunAtBoundary_raised (s : State) : TimingRaised s (freeRunAtBoundary s) := by
  rw [freeRunAtBoundary_eq]
  exact .of_entered rfl rfl

theorem alignAtBoundary_raised (s : State) : TimingRaised s (alignAtBoundary s) := by
  rw [alignAtBoundary_eq]
  exact .of_entered rfl rfl

theorem holdAtBoundary_raised (s : State) : TimingRaised s (holdAtBoundary s) := by
  obtain ⟨m, uses, e, -, -⟩ := holdAtBoundary_eq s
  rw [e]
  exact .of_entered rfl rfl

theorem settleState_raised (r : Rate) (src : LockSource) (s : State) : TimingRaised s (settleState r src s) := by
  unfold settleState
  split
  · exact freeRunAtBoundary_raised s
  split
  · split
    · split
      · exact .refl s
      · exact alignAtBoundary_raised s
    · exact freeRunAtBoundary_raised s
  split
  · split
    · exact alignAtBoundary_raised s
    split
    · exact holdAtBoundary_raised s
    · exact .refl s
  · exact .refl s

/-- A measured period in force stays through step (2) (R66 (3), R69). -/
theorem settleState_measured (hm : s.time.measured = some m) : (settleState r src s).time.measured = some m := by
  obtain ⟨x, uses, hold, held, -⟩ := holdAtBoundary_eq s
  unfold settleState
  split
  · rw [freeRunAtBoundary_eq]; exact hm
  split
  · split
    · split
      · exact hm
      · rw [alignAtBoundary_eq]; exact hm
    · rw [freeRunAtBoundary_eq]; exact hm
  split
  · split
    · rw [alignAtBoundary_eq]; exact hm
    split
    · rw [hold, held m hm]
    · exact hm
  · exact hm

/-- Settling the timing state does not change the presence of the lock source. -/
theorem settleState_lockPresent (r : Rate) (src : LockSource) (s : State) :
    (settleState r src s).lockPresent = s.lockPresent := by
  rw [settleState_eq]
  exact lockPresent_congr rfl rfl rfl rfl

/-- A measured period of the old rate that no tracked source carries on is forgotten (log entry 32). -/
theorem applyStaged_forgets (hr : r ≠ s.time.rate)
    (hk : (s.time.timing = .tracking ∧ s.time.source = src) → (applyStaged r src s).lockPresent = false) :
    (applyStaged r src s).time.measured = none := by
  rw [(applyStaged_newRate_fields hr).2.2, if_neg]
  rintro ⟨tracked, hl⟩
  simp [hk tracked] at hl

/-- Settles O49: the settings put in force, then the branch of step (2) that each case names. -/
theorem stagedTimingIsSettled : Obligations.StagedTimingIsSettled := by
  intro b r src s hr hb hs
  have run : exec .timingSetupApply s
      = .next (settleState s.time.rate s.time.source (applyStaged r src (s.reach b))) := by
    rw [exec_timingSetupApply hr hb (Option.isSome_of_mem hs), settleStaged_some (s := s.reach b) hs]
    rfl
  obtain ⟨source, rate, timing, holdover⟩ := applyStaged_settings r src (s.reach b)
  have newRate := fun h => applyStaged_newRate_fields (s := s.reach b) (r := r) (src := src) h
  have sameRate := fun h => applyStaged_sameRate_fields (s := s.reach b) (r := r) (src := src) h
  have forgets := fun h => applyStaged_forgets (s := s.reach b) (r := r) (src := src) h
  have frame := applyStaged_eq r src (s.reach b)
  have events : (applyStaged r src (s.reach b)).events = s.events := by rw [frame]; rfl
  obtain ⟨unchanged, changed⟩ := settleState_raised s.time.rate s.time.source (applyStaged r src (s.reach b))
  rw [timing, events] at unchanged changed
  have whole := settleState_eq s.time.rate s.time.source (applyStaged r src (s.reach b))
  refine ⟨_, run, by rw [whole, frame]; rfl, by rw [whole, frame]; rfl, ?_⟩
  have present := settleState_lockPresent s.time.rate s.time.source (applyStaged r src (s.reach b))
  have kept : (settleState s.time.rate s.time.source (applyStaged r src (s.reach b))).time.refPresent
      = (applyStaged r src (s.reach b)).time.refPresent := by rw [whole]
  rw [present, kept]
  clear frame whole run present kept
  change _ = s.time.timing at timing
  change _ = s.time.holdover at holdover
  change _ → _ = s.time.refPresent ∧ _ = s.time.settled ∧ _ = s.time.measured at sameRate
  generalize applyStaged r src (s.reach b) = u at *
  subst source rate
  refine ⟨fun h => (sameRate h).1, fun h => ?_, fun h => ?_, fun h h' hl => ?_, fun h h' hl => ?_,
    fun h h' h'' hl => ?_, fun h h' h'' hl => ?_, fun h m hm => ?_, fun h h' h'' => ?_, unchanged, changed⟩
  · rw [(newRate h).1]
    exact referencePresence_iff
  · rw [settleState_free h, freeRunAtBoundary_eq]
    exact ⟨rfl, rfl, fun h' => forgets h' fun _ => Bool.eq_false_iff.2 fun hl => source_of_lockPresent hl h⟩
  · by_cases hk : s.time.timing = .tracking ∧ u.time.source = s.time.source
    · rw [settleState_newRate_kept h h' hl (timing.trans hk.1) hk.2]
      refine ⟨timing.trans hk.1, fun _ _ => ⟨fun plain => ?_, holdover, fun m hm lo hi => ?_⟩,
        fun hn => absurd hk (not_and_or.2 hn)⟩
      · rw [(newRate h').2.1.trans (if_pos plain)]
        nofun
      · rw [(newRate h').2.2, if_pos ⟨⟨hk.1, hk.2.symm⟩, hl⟩]
        exact Option.filter_eq_some_iff.2 ⟨hm, by simp [Rate.accepts, lo, hi]⟩
    · rw [settleState_newRate_present h h' hl (by rw [timing]; exact hk), alignAtBoundary_eq]
      exact ⟨rfl, fun ht he => absurd ⟨ht, he⟩ hk,
        fun _ => ⟨rfl, rfl, forgets h' fun tracked => absurd ⟨tracked.1, tracked.2.symm⟩ hk⟩⟩
  · rw [settleState_newRate_absent h h' hl, freeRunAtBoundary_eq]
    exact ⟨rfl, rfl, forgets h' fun _ => hl⟩
  · rw [settleState_newSource_present h h' h'' hl, alignAtBoundary_eq]
    exact ⟨rfl, rfl, rfl⟩
  · refine ⟨fun ht => ?_, fun ht => ?_⟩
    · obtain ⟨m, uses, e, -, free⟩ := holdAtBoundary_eq u
      rw [settleState_newSource_lost h h' h'' hl (timing.trans ht), e]
      refine ⟨rfl, rfl, rfl, rfl, fun hn x hx => ?_⟩
      cases hx
      exact free ((sameRate h').2.2.trans hn)
    · rw [settleState_newSource_absent h h' h'' hl (by rw [timing]; exact ht)]
      exact ⟨timing, holdover, (sameRate h').2.1⟩
  · exact settleState_measured ((sameRate h).2.2.trans hm)
  · rw [settleState_same h h' h'']
    exact ⟨timing, holdover, (sameRate h').2.1⟩

/-! #### The boundary (R65 to R67, R69) -/

/-- A scheduled boundary is taken at its instant (R69). -/
theorem exec_outputFrameBoundary (hr : s.resetLine = false) (hb : s.time.nextBoundary = some b) :
    exec .outputFrameBoundary s = .next (takeBoundary b s) := by
  simp only [exec, execOutputFrameBoundary]
  rw [whenRunning_run hr]
  simp only [hb]

theorem settleStaged_staged (s : State) : (settleStaged s).time.staged = none := by
  cases hs : s.time.staged with
  | none => rw [settleStaged_none hs]; exact hs
  | some x => rw [settleStaged_some (r := x.1) (src := x.2) hs, settleState_eq, applyStaged_eq]

theorem settleStaged_resetLine (s : State) : (settleStaged s).resetLine = s.resetLine := by
  cases hs : s.time.staged with
  | none => rw [settleStaged_none hs]
  | some x => rw [settleStaged_some (r := x.1) (src := x.2) hs, settleState_eq, applyStaged_eq]

/-! When the next boundary falls, by the timing state (R65 to R67). -/

theorem nextAfter_freeRun (ht : s.time.timing = .freeRun) : nextAfter b s = some (b + s.time.rate.period) := by
  simp [nextAfter, ht]

theorem nextAfter_holdover (ht : s.time.timing = .holdover) (hm : s.time.measured = some m) :
    nextAfter b s = some (b + m) := by
  simp [nextAfter, ht, State.period, hm]

theorem nextAfter_aligning (ht : s.time.timing = .tracking) (hs : s.time.settled = .align) :
    nextAfter b s = none := by
  simp [nextAfter, ht, hs]

theorem nextAfter_delayed (ht : s.time.timing = .tracking) (hs : s.time.settled ≠ .align)
    (hc : s.time.afterNext = some c) : nextAfter b s = some (max (b + s.time.rate.shortest) c) := by
  simp [nextAfter, ht, hs, hc]

theorem nextAfter_tracking (ht : s.time.timing = .tracking) (hs : s.time.settled ≠ .align)
    (hc : s.time.afterNext = none) (hm : s.time.measured = some m) :
    nextAfter b s = some (max (b + s.time.rate.shortest) (b + m)) := by
  simp [nextAfter, ht, hs, hc, State.period, hm]

/-- Step (3) changes the timing state, with its event, and the count only (R67). -/
theorem countHoldover_eq (s : State) : countHoldover s = { s with
    time := { s.time with
      timing := (countHoldover s).time.timing, holdover := (countHoldover s).time.holdover }
    events := (countHoldover s).events } := by
  unfold countHoldover
  split
  · split
    · rw [freeRunAtBoundary_eq]
    · rfl
  · rfl

/-- The time base after a boundary with nothing staged: step (3) and the schedule (R67, R69). -/
theorem takeBoundary_time (hs : s.time.staged = none) : (takeBoundary b s).time = { s.time with
    timing := (countHoldover (s.reach b)).time.timing, holdover := (countHoldover (s.reach b)).time.holdover
    nextBoundary := nextAfter b (countHoldover (s.reach b)), frameBegan := b, afterNext := none
    settled := .plain } := by
  have idle : settleStaged (s.reach b) = s.reach b := settleStaged_none hs
  rw [(clock_eq_iff.1 (clock_takeBoundary b s)).2.2, timeBoundary, idle]
  show { (countHoldover (s.reach b)).time with
    frameBegan := b, nextBoundary := nextAfter b (countHoldover (s.reach b)), afterNext := none, settled := .plain } = _
  have counted := countHoldover_eq (s.reach b)
  generalize countHoldover (s.reach b) = u at *
  rw [counted]
  rfl

/-- Settings applied before their boundary leave nothing for the boundary to apply (R69; log entry 2). -/
theorem takeBoundary_settled (s : State) : takeBoundary b (settleStaged (s.reach b)) = takeBoundary b s := by
  have passed : (settleStaged (s.reach b)).reach b = settleStaged (s.reach b) := by
    refine reach_of_le ?_
    rw [(settleStaged_schedule _).1]
    exact Nat.le_max_right _ _
  have timed : timeBoundary b (settleStaged (s.reach b)) = timeBoundary b s := by
    unfold timeBoundary
    rw [passed, settleStaged_none (settleStaged_staged _)]
  unfold takeBoundary
  rw [timed]

/-- The instant of a boundary comes (log entry 3). -/
theorem takeBoundary_now (b : Ticks) (s : State) : (takeBoundary b s).now = max s.now b := by
  rw [(clock_eq_iff.1 (clock_takeBoundary b s)).1]
  show (countHoldover (settleStaged (s.reach b))).now = _
  rw [countHoldover_eq]
  exact (settleStaged_schedule (s.reach b)).1

/-- Settles O52: the staged settings applied first, then each timing state by the outcome of step (3) and
`nextAfter`. -/
theorem boundariesFollowTheTimingState : Obligations.BoundariesFollowTheTimingState := by
  refine ⟨fun b s u hr hb hs h => ?_, fun b s hr hb hs => ?_⟩
  · rw [exec_timingSetupApply hr hb hs] at h
    injection h with h
    obtain ⟨-, due⟩ := settleStaged_schedule (s.reach b)
    rw [← h]
    refine ⟨due.trans hb, settleStaged_staged _, ?_⟩
    rw [exec_outputFrameBoundary hr hb,
      exec_outputFrameBoundary ((settleStaged_resetLine (s.reach b)).trans hr) (due.trans hb), takeBoundary_settled]
  refine ⟨takeBoundary b s, exec_outputFrameBoundary hr hb, takeBoundary_now b s, ?_⟩
  rw [takeBoundary_time hs]
  have uncounted := fun h => countHoldover_uncounted (s := s.reach b) h
  refine ⟨rfl, fun ht => ?_, fun ht => ?_, fun m ht hm => ?_, fun ht held low => ?_⟩
  · rw [uncounted (.inl (by simp [State.reach, ht]))]
    exact ⟨ht, nextAfter_freeRun ht⟩
  · rw [uncounted (.inl (by simp [State.reach, ht]))]
    exact ⟨ht, nextAfter_aligning ht, fun c hs hc => nextAfter_delayed ht hs hc,
      fun m hs hc hm => nextAfter_tracking ht hs hc hm⟩
  · refine ⟨fun held => ?_, fun held count => ?_⟩
    · rw [uncounted (.inr held)]
      exact ⟨ht, rfl, nextAfter_holdover ht hm⟩
    · rw [countHoldover_counts (s := s.reach b) ht held count]
      exact ⟨ht, rfl, nextAfter_holdover ht hm⟩
  · rw [countHoldover_expires (s := s.reach b) ht held low]
    have free : (freeRunAtBoundary (s.reach b)).time = { s.time with timing := .freeRun, holdover := 0 } := by
      rw [freeRunAtBoundary_eq]
      rfl
    refine ⟨congrArg TimeBase.timing free, congrArg TimeBase.holdover free, ?_⟩
    refine (nextAfter_freeRun (congrArg TimeBase.timing free)).trans ?_
    rw [free]

end Sys2Proof.Machine
end

section
/-! ### One window and the lists that hold it

The invariant of the scene tables window by window: `Window.Sound` says it of one window, given whether the live list of
its scene holds it, and `sceneTablesSound_of` brings it back from the windows and the lists to the part. -/

namespace Sys2Proof.Machine

variable {s t : State} {x y : Window} {target : Shown} {k w f : Nat} {live was will : Bool}

/-- One window of sound scene tables, `live` saying that the live list of its scene holds it (R74, R76 to R78). -/
structure Window.Sound (x : Window) (live : Bool) : Prop where
  copies : ConfigSound x.staged ∧ ConfigSound x.live
  moving : TransSound x.trans
  idle : live = false → x.trans = .none ∧ x.tourRemaining = 0 ∧ x.frozen = false
  frozen : x.frozen = true → x.trans = .none
  unbound : x.binding = none → x = Window.reset

theorem SceneTablesSound.window (h : SceneTablesSound s) (hw : w < 64) : (s.window w).Sound (s.inLive w) :=
  ⟨h.copies w hw, h.moving w hw, h.idle w hw, h.frozen w hw, h.unbound w hw⟩

theorem transSound_none : TransSound .none := ⟨nofun, nofun⟩

/-- The default record is sound outside every live list (R78). -/
theorem Window.sound_reset : Window.reset.Sound false :=
  ⟨⟨configSound_reset, configSound_reset⟩, transSound_none, fun _ => ⟨rfl, rfl, rfl⟩, nofun, fun _ => rfl⟩

/-! #### Transitions (R95, R99, R102 to R104) -/

/-- A window that stands still and is not frozen, with no tour that counts, is sound in a live list and outside one. -/
theorem Window.sound_still (hb : x.binding ≠ none) (hc : ConfigSound x.staged ∧ ConfigSound x.live)
    (ht : x.trans = .none) (hr : live = false → x.tourRemaining = 0) (hf : x.frozen = false) : x.Sound live :=
  ⟨hc, ht ▸ transSound_none, fun hl => ⟨ht, hr hl, hf⟩, fun _ => ht, fun h => absurd h hb⟩

/-- A bound window of a live list that is not frozen is sound with any sound transition. -/
theorem Window.sound_moving (hb : x.binding ≠ none) (hc : ConfigSound x.staged ∧ ConfigSound x.live)
    (hm : TransSound x.trans) (hf : x.frozen = false) : x.Sound true :=
  ⟨hc, hm, nofun, fun h => (by rw [hf] at h; cases h), fun h => absurd h hb⟩

/-- A window unfrozen stays sound (R53, R108). -/
theorem Window.Sound.unfrozen (h : x.Sound live) : ({ x with frozen := false } : Window).Sound live where
  copies := h.copies
  moving := h.moving
  idle hl :=
    have ⟨ht, hr, _⟩ := h.idle hl
    ⟨ht, hr, rfl⟩
  frozen := nofun
  unbound hb := by
    obtain rfl := h.unbound hb
    rfl

/-- The transition state that a start towards another target leaves is sound (R99, R102, R103). -/
theorem Window.start_transSound (hc : ConfigSound x.live) (ht : target ≠ x.shown) :
    TransSound (x.start target).trans := by
  unfold Window.start
  split
  · exact transSound_none
  · rename_i n hn
    refine ⟨fun r next e => ?_, nofun⟩
    cases e
    exact hc.fill n hn
  · rename_i n hn
    refine ⟨nofun, fun k m old new e => ?_⟩
    cases e
    obtain ⟨low, high⟩ := hc.mix n hn
    exact ⟨Nat.le_refl 1, by omega, low, high, ht.symm⟩

/-- A window of a live list that completes its transition and starts towards another target is sound (R99, R104). -/
theorem Window.sound_redirected (hb : x.binding ≠ none) (hc : ConfigSound x.staged ∧ ConfigSound x.live)
    (hf : x.frozen = false) (ht : target ≠ x.target) : (x.complete.start target).Sound true := by
  have moved := Window.start_transSound (x := x.complete) hc.2 ht
  rw [Window.start_eq] at moved ⊢
  exact sound_moving hb hc moved hf

/-- Step (1) of a boundary keeps a transition sound (R102, R103). -/
theorem Window.advance_transSound (h : TransSound x.trans) : TransSound x.advance.trans := by
  unfold Window.advance
  split
  · exact h
  · rename_i r next e
    split
    · exact transSound_none
    · refine ⟨fun q n e' => ?_, nofun⟩
      cases e'
      have := h.dead r next e
      omega
  · rename_i k n old new e
    split
    · refine ⟨nofun, fun j m o p e' => ?_⟩
      cases e'
      obtain ⟨-, -, hn⟩ := h.mix k n old new e
      exact ⟨by omega, by omega, hn⟩
    · exact transSound_none

/-- Step (1) of a boundary writes the shown source and the transition state only (R102, R103). -/
theorem Window.advance_eq (x : Window) : x.advance = { x with shown := x.advance.shown, trans := x.advance.trans } := by
  unfold Window.advance
  split
  · rfl
  · split <;> rfl
  · split <;> rfl

/-- Step (1) of a boundary keeps a window of a live list that is not frozen sound (R96 (1)). -/
theorem Window.Sound.advance (h : x.Sound true) (hb : x.binding ≠ none) (hf : x.frozen = false) :
    x.advance.Sound true := by
  have moved := Window.advance_transSound h.moving
  rw [Window.advance_eq] at moved ⊢
  exact sound_moving hb h.copies moved hf

/-- A step of its tour keeps a window of a live list that is not frozen sound (R111). -/
theorem Window.Sound.stepTo (h : x.Sound true) (hb : x.binding ≠ none) (hf : x.frozen = false) (q : Nat) :
    (x.stepTo q).Sound true := by
  unfold Window.stepTo
  dsimp only
  split
  · exact sound_moving hb h.copies h.moving hf
  · exact sound_redirected (x := { x with tourPosition := q }) hb h.copies hf ‹_›

theorem Window.stepTo_binding (x : Window) (q : Nat) : (x.stepTo q).binding = x.binding := by
  unfold Window.stepTo
  dsimp only
  split
  · rfl
  · rw [Window.start_eq]
    rfl

/-! #### Takes (R98, R99, R105) -/

/-- A window in both lists is sound after the take (R99, R105). -/
theorem Window.sound_takenBoth (old : WindowConfig) (hb : x.binding ≠ none)
    (hc : ConfigSound x.staged ∧ ConfigSound x.live) (hm : TransSound x.trans)
    (hf : x.frozen = true → x.trans = .none) :
    (x.takenBoth f old).Sound true := by
  unfold Window.takenBoth
  rw [Window.takenTour_eq]
  split
  · split
    · exact sound_moving hb hc hm rfl
    · exact ⟨hc, hm, nofun, hf, fun h => absurd h hb⟩
  · exact sound_redirected (x := { x with
      tourPosition := (x.takenTour f old).tourPosition, tourRemaining := (x.takenTour f old).tourRemaining
      tourPeriod := (x.takenTour f old).tourPeriod, frozen := false }) hb hc rfl ‹_›

/-- A bound window is sound after a take of its scene, `was` and `will` saying whether the old and the new live list
hold it (R98). -/
theorem Window.Sound.taken (h : x.Sound was) (hb : x.binding ≠ none) (will : Bool) (f : Nat) :
    (x.taken was will f).Sound will := by
  have copied : ConfigSound x.staged ∧ ConfigSound x.staged := ⟨h.copies.1, h.copies.1⟩
  cases was <;> cases will
  case false.false =>
    obtain ⟨ht, -, hf⟩ := h.idle rfl
    exact sound_still hb copied ht (fun _ => rfl) hf
  case false.true =>
    unfold Window.taken
    dsimp only
    split <;> exact sound_still hb copied rfl nofun rfl
  case true.false => exact sound_still hb copied rfl (fun _ => rfl) rfl
  case true.true => exact sound_takenBoth x.live hb copied h.moving h.frozen

/-! #### The lists (R74, R80) -/

/-- A layer list of scene `k` (R80). -/
def State.Lists (s : State) (k : Nat) (l : List Nat) : Prop :=
  l.length ≤ 8 ∧ l.Nodup ∧ ∀ w ∈ l, w < 64 ∧ (s.window w).binding = some k

/-- The windows of a layer list are bound to its scene. -/
theorem State.Lists.bound {l : List Nat} (h : s.Lists k l) {w : Nat} (hm : w ∈ l) :
    w < 64 ∧ (s.window w).binding = some k :=
  have ⟨_, _, bound⟩ := h
  bound w hm

/-- A list stays a layer list of its scene while its windows stay bound. -/
theorem State.Lists.of_bindings {l : List Nat} (h : s.Lists k l)
    (hb : ∀ w ∈ l, (s.window w).binding = some k → (t.window w).binding = some k) : t.Lists k l :=
  have ⟨short, once, _⟩ := h
  ⟨short, once, fun w hw =>
    have ⟨small, bound⟩ := h.bound hw
    ⟨small, hb w hw bound⟩⟩

/-- Sound scene tables from sound lists and sound windows. -/
theorem sceneTablesSound_of (hl : ∀ k, k < 16 → s.Lists k (s.scene k).stagedList ∧ s.Lists k (s.scene k).liveList)
    (hw : ∀ w, w < 64 → (s.window w).Sound (s.inLive w)) : SceneTablesSound s where
  staged k hk := (hl k hk).1
  live k hk := (hl k hk).2
  copies w h := (hw w h).copies
  moving w h := (hw w h).moving
  idle w h := (hw w h).idle
  frozen w h := (hw w h).frozen
  unbound w h := (hw w h).unbound

/-- The scene has the same layer lists. -/
def Scene.SameLists (c d : Scene) : Prop := d.stagedList = c.stagedList ∧ d.liveList = c.liveList

/-- A window that the live list of its scene holds is bound. -/
theorem bound_of_inLive (h : s.inLive w = true) : (s.window w).binding ≠ none := fun hb => by
  simp [State.inLive, hb] at h

/-- Whether a bound window stands in the live list of its scene. -/
theorem inLive_bound (hb : (s.window w).binding = some k) : s.inLive w = (s.scene k).liveList.contains w := by
  simp [State.inLive, hb]

/-- An unbound window stands in no live list. -/
theorem inLive_unbound (hb : (s.window w).binding = none) : s.inLive w = false := by
  simp [State.inLive, hb]

/-- Whether a window stands in a live list depends on its binding and the live lists. -/
theorem inLive_congr (hs : ∀ k, (t.scene k).liveList = (s.scene k).liveList)
    (hb : (t.window w).binding = (s.window w).binding) : t.inLive w = s.inLive w := by
  cases h : (s.window w).binding with
  | none => rw [inLive_unbound h, inLive_unbound (hb.trans h)]
  | some k => rw [inLive_bound h, inLive_bound (hb.trans h), hs k]

/-- An event that keeps the lists and the bindings keeps the tables sound where it keeps every window sound. -/
theorem SceneTablesSound.rewritten (h : SceneTablesSound s) (hs : ∀ k, (s.scene k).SameLists (t.scene k))
    (hw : ∀ w, w < 64 → (t.window w).binding = (s.window w).binding
      ∧ ((s.window w).Sound (s.inLive w) → (t.window w).Sound (s.inLive w))) : SceneTablesSound t := by
  refine sceneTablesSound_of (fun k hk => ?_) fun w hw' => ?_
  · have kept : ∀ l, s.Lists k l → t.Lists k l := fun l hl =>
      hl.of_bindings fun w hm hb =>
      have ⟨small, _⟩ := hl.bound hm
      have ⟨binding, _⟩ := hw w small
      binding.trans hb
    rw [(hs k).1, (hs k).2]
    exact ⟨kept _ (h.staged k hk), kept _ (h.live k hk)⟩
  · rw [inLive_congr (fun k => (hs k).2) (hw w hw').1]
    exact (hw w hw').2 (h.window hw')

/-- A window outside the bank reads as an unbound one, and is not written. -/
theorem setWindow_window_cases (s : State) (w v : Nat) (x : Window) :
    (v = w ∧ (s.setWindow w x).window v = x) ∨ (s.setWindow w x).window v = s.window v :=
  look_put_cases s.windows x Window.reset w v

/-- A window written with its binding kept, sound where it was sound. -/
theorem SceneTablesSound.setWindow (h : SceneTablesSound s) (hb : x.binding = (s.window w).binding)
    (hx : (s.window w).Sound (s.inLive w) → x.Sound (s.inLive w)) : SceneTablesSound (s.setWindow w x) := by
  refine h.rewritten (fun _ => ⟨rfl, rfl⟩) fun v _ => ?_
  rcases setWindow_window_cases s w v x with ⟨rfl, e⟩ | e <;> rw [e]
  · exact ⟨hb, hx⟩
  · exact ⟨rfl, id⟩

/-- A window that no list of its scene holds may change its binding, where it is sound outside every list (R82, R83). -/
theorem SceneTablesSound.rebind (h : SceneTablesSound s) (hw : w < 64)
    (hout : ∀ k, k < 16 → w ∉ (s.scene k).stagedList ∧ w ∉ (s.scene k).liveList) (hx : x.Sound false) :
    SceneTablesSound (s.setWindow w x) := by
  have others : ∀ v, v ≠ w → (s.setWindow w x).window v = s.window v := fun v hv =>
    State.setWindow_window_ne _ _ _ _ hv
  refine sceneTablesSound_of (fun k hk => ?_) fun v hv => ?_
  · have kept : ∀ l, w ∉ l → s.Lists k l → (s.setWindow w x).Lists k l := fun l hl hs =>
      hs.of_bindings fun v hm hb => by
        rw [others v fun e => hl (e ▸ hm)]
        exact hb
    obtain ⟨hstaged, hlive⟩ := hout k hk
    exact ⟨kept _ hstaged (h.staged k hk), kept _ hlive (h.live k hk)⟩
  · by_cases e : v = w
    · subst v
      have outside : (s.setWindow w x).inLive w = false := by
        cases hb : ((s.setWindow w x).window w).binding with
        | none => exact inLive_unbound hb
        | some k =>
          rw [inLive_bound hb]
          by_cases hk : k < 16
          · simpa using (hout k hk).2
          · rw [State.setWindow_scene, State.scene, look_outside _ _ (Nat.le_of_not_lt hk)]
            rfl
      rw [outside, State.setWindow_window_same _ _ _ hw]
      exact hx
    · have same : (s.setWindow w x).inLive v = s.inLive v :=
        inLive_congr (fun _ => rfl) (congrArg Window.binding (others v e))
      rw [same, others v e]
      exact h.window hv

/-- A scene just written reads as written, any other as before. -/
theorem setScene_scene_cases (s : State) (k j : Nat) (c : Scene) :
    (j = k ∧ (s.setScene k c).scene j = c) ∨ (s.setScene k c).scene j = s.scene j :=
  look_put_cases s.scenes c Scene.reset k j

/-- A scene written with its lists kept. -/
theorem SceneTablesSound.setScene {c : Scene} (h : SceneTablesSound s) (hc : (s.scene k).SameLists c) :
    SceneTablesSound (s.setScene k c) :=
  h.rewritten (fun j => by
    rcases setScene_scene_cases s k j c with ⟨rfl, e⟩ | e <;> rw [e]
    · exact hc
    · exact ⟨rfl, rfl⟩) fun _ _ => ⟨rfl, id⟩

/-- A scene written with its live list kept, its staged list being one of windows bound to the scene (R80, R88). -/
theorem SceneTablesSound.restage {c : Scene} (h : SceneTablesSound s) (hl : c.liveList = (s.scene k).liveList)
    (hc : s.Lists k c.stagedList) : SceneTablesSound (s.setScene k c) := by
  have live : ∀ j, ((s.setScene k c).scene j).liveList = (s.scene j).liveList := fun j => by
    rcases setScene_scene_cases s k j c with ⟨rfl, e⟩ | e <;> rw [e]
    exact hl
  refine sceneTablesSound_of (fun j hj => ⟨?_, ?_⟩) fun w hw => ?_
  · rcases setScene_scene_cases s k j c with ⟨rfl, e⟩ | e <;> rw [e]
    · exact hc
    · exact h.staged j hj
  · rw [live]
    exact h.live j hj
  · rw [inLive_congr live rfl]
    exact h.window hw

/-! #### The scene and its windows after a take (R98) -/

/-- The staged background and list of the scene become its live ones. A scene that the part lacks has neither. -/
theorem applyTake_scene (k f j : Nat) (b : Bool) (s : State) : (applyTake k f b s).scene j = if j = k then
    { s.scene j with liveBackground := (s.scene j).stagedBackground, liveList := (s.scene j).stagedList }
    else s.scene j := by
  rw [State.scene, applyTake_scenes]
  by_cases hj : j = k
  · subst j
    rw [if_pos rfl]
    by_cases hk : k < 16
    · rw [look_put_same _ _ _ hk]
    · rw [put_outside _ _ (Nat.le_of_not_lt hk), State.scene, look_outside _ _ (Nat.le_of_not_lt hk)]
      rfl
  · rw [look_put_ne _ _ _ hj, if_neg hj]
    rfl

theorem applyTake_stagedList (k f j : Nat) (b : Bool) (s : State) :
    ((applyTake k f b s).scene j).stagedList = (s.scene j).stagedList := by
  rw [applyTake_scene]
  split <;> rfl

theorem applyTake_liveList (k f j : Nat) (b : Bool) (s : State) : ((applyTake k f b s).scene j).liveList
    = if j = k then (s.scene j).stagedList else (s.scene j).liveList := by
  rw [applyTake_scene]
  split <;> rfl

theorem applyTake_takePending (k f j : Nat) (b : Bool) (s : State) :
    ((applyTake k f b s).scene j).takePending = (s.scene j).takePending := by
  rw [applyTake_scene]
  split <;> rfl

theorem applyTake_window (k f w : Nat) (b : Bool) (s : State) : (applyTake k f b s).window w
    = if w ∈ s.boundTo k then s.takenWindow k f w else s.window w :=
  takeWindows_window _ _ f b w _ _ (fun _ hw => (mem_boundTo.1 hw).1) (nodup_boundTo k s)

theorem applyTake_binding (k f w : Nat) (b : Bool) (s : State) :
    ((applyTake k f b s).window w).binding = (s.window w).binding := by
  rw [applyTake_window]
  split
  · exact ((s.window w).taken_copies f _ _).1
  · rfl

/-- A window of another scene stands in the live list that it stood in. -/
theorem applyTake_inLive_other (hw : w < 64) (hout : w ∉ s.boundTo k) (f : Nat) (b : Bool) :
    (applyTake k f b s).inLive w = s.inLive w := by
  have binding := applyTake_binding k f w b s
  cases hb : (s.window w).binding with
  | none => rw [inLive_unbound hb, inLive_unbound (binding.trans hb)]
  | some j =>
    have hj : j ≠ k := fun e => hout (mem_boundTo.2 ⟨hw, e ▸ hb⟩)
    rw [inLive_bound hb, inLive_bound (binding.trans hb), applyTake_liveList, if_neg hj]

/-- A take keeps the tables sound: the staged list of the scene becomes its live list, and each window bound to the
scene is left as `Window.taken` says (R98). -/
theorem SceneTablesSound.taken (h : SceneTablesSound s) (k f : Nat) (b : Bool) :
    SceneTablesSound (applyTake k f b s) := by
  refine sceneTablesSound_of (fun j hj => ?_) fun w hw => ?_
  · have kept : ∀ l, s.Lists j l → (applyTake k f b s).Lists j l := fun l hl =>
      hl.of_bindings fun w _ hb => (applyTake_binding k f w b s).trans hb
    rw [applyTake_stagedList, applyTake_liveList]
    refine ⟨kept _ (h.staged j hj), ?_⟩
    split
    · exact kept _ (h.staged j hj)
    · exact kept _ (h.live j hj)
  · have sound := h.window hw
    rw [applyTake_window]
    split
    · obtain ⟨-, hb⟩ := mem_boundTo.1 ‹_›
      rw [inLive_bound hb] at sound
      rw [inLive_bound ((applyTake_binding k f w b s).trans hb), applyTake_liveList, if_pos rfl]
      exact sound.taken (by rw [hb]; nofun) _ f
    · rw [applyTake_inLive_other hw ‹_›]
      exact sound

end Sys2Proof.Machine
end

section
/-! ### The bounds of the link, with a request being dispatched

While a request is being dispatched one reserved place is not yet that of an entry of the table. `Booked` says the
invariant of the link with such places owed; with none owed it is `LinkBounded`. -/

namespace Sys2Proof.Machine

variable {s t u : State} {l : Link} {owed a b c n k : Nat}

/-- The bounds of the link interface with `owed` reserved places that no entry of the table has; one is owed while a
request is dispatched, which happens during no Device Reset (R149, R150, R153, R156). -/
structure Link.Bounded (owed : Nat) (l : Link) : Prop where
  queue : l.queue.length ≤ 4
  places : l.reserved + l.replies.length ≤ 24
  reserved : l.reserved = l.table.length + owed
  table : l.table.length ≤ 16
  errors : l.errors ≤ 65535
  emptied : l.resetting = true → l.queue = [] ∧ l.table = []
  single : l.table.Pairwise fun a b => a.target.clashes b.target = false
  serving : owed ≠ 0 → l.resetting = false

/-- A scene's take pending flag says that the table holds a take of it (R81). -/
def State.Flagged (s : State) : Prop := s.link.resetting = false → ∀ k, k < 16 →
  ((s.scene k).takePending = true ↔ s.hasPending (·.isTakeOf k) = true)

/-- The invariant of the link with `owed` places owed. -/
structure Booked (owed : Nat) (s : State) : Prop where
  link : s.link.Bounded owed
  flags : s.Flagged

theorem linkBounded_iff : LinkBounded s ↔ Booked 0 s :=
  ⟨fun h => ⟨⟨h.queue, h.places, h.reserved, h.table, h.errors, h.emptied, h.single, fun h => absurd rfl h⟩, h.flags⟩,
    fun ⟨h, hf⟩ => ⟨h.queue, h.places, h.reserved, h.table, h.errors, h.emptied, h.single, hf⟩⟩

/-- All that the invariant of the link speaks of: the link and the take pending flags. -/
def State.booking (s : State) : Link × (Nat → Bool) := (s.link, fun k => (s.scene k).takePending)

theorem Booked.of_booking (h : Booked owed s) (e : t.booking = s.booking) : Booked owed t := by
  obtain ⟨hl, hf⟩ := Prod.mk.inj e
  refine ⟨hl ▸ h.link, fun hr k hk => ?_⟩
  rw [show (t.scene k).takePending = (s.scene k).takePending from congrFun hf k, State.hasPending, hl]
  exact h.flags (hl ▸ hr) k hk

/-- A scene written with its take pending flag kept. -/
theorem booking_setScene {c : Scene} (h : c.takePending = (s.scene k).takePending) :
    (s.setScene k c).booking = s.booking := by
  refine congrArg (Prod.mk s.link) (funext fun j => ?_)
  rcases setScene_scene_cases s k j c with ⟨rfl, e⟩ | e <;> rw [e]
  exact h

/-! #### Places (R150) -/

/-- A place is reserved for a request that is dispatched. -/
theorem Booked.reserve (h : Booked 0 s) (hr : s.link.resetting = false) (hp : 0 < s.link.freePlaces) :
    Booked 1 (reservePlace s) := by
  have bounded := h.link
  have places : s.link.reserved + s.link.replies.length < 24 := by
    simpa [Link.freePlaces, Config.replyPlaces] using hp
  refine ⟨{ bounded with places := ?_, reserved := ?_, serving := fun _ => hr }, h.flags⟩
  · show s.link.reserved + 1 + s.link.replies.length ≤ 24
    omega
  · show s.link.reserved + 1 = s.link.table.length + 1
    rw [bounded.reserved]

/-- A reply takes the place that is owed. -/
theorem Booked.replies (h : Booked 1 s) (r : Reply) : Booked 0 (queueReply r s) := by
  have bounded := h.link
  refine ⟨{ bounded with places := ?_, reserved := ?_, serving := fun h => absurd rfl h }, h.flags⟩
  · show s.link.reserved - 1 + (s.link.replies ++ [r]).length ≤ 24
    have := bounded.places
    have := bounded.reserved
    simp only [List.length_append, List.length_singleton]
    omega
  · show s.link.reserved - 1 = s.link.table.length + 0
    have := bounded.reserved
    omega

/-! #### The table (R153, R154) -/

/-- A request that enters the table takes the place that is owed. -/
theorem Link.Bounded.enters (h : s.link.Bounded 1) (tag : Byte) {x : PendingTarget} (ht : s.tableFull = false)
    (hx : ∀ e ∈ s.link.table, e.target.clashes x = false) : (enterTable tag x s).link.Bounded 0 := by
  have room : s.link.table.length < 16 := by simpa [State.tableFull] using ht
  have serving : s.link.resetting = false := h.serving (by decide)
  refine { h with
    reserved := ?_, table := ?_, emptied := fun e => ?_, single := ?_, serving := fun h => absurd rfl h }
  · show s.link.reserved = (s.link.table ++ [(⟨tag, x⟩ : PendingRequest)]).length + 0
    rw [h.reserved, List.length_append]
    rfl
  · show (s.link.table ++ [(⟨tag, x⟩ : PendingRequest)]).length ≤ 16
    rw [List.length_append]
    exact room
  · exact absurd (show s.link.resetting = true from e) (by simp [serving])
  · exact List.pairwise_append.2 ⟨h.single, List.pairwise_singleton _ _, fun e he y hy => by
      obtain rfl := List.mem_singleton.1 hy
      exact hx e he⟩

/-- Requests that end give their places to their replies. -/
theorem Link.Bounded.ends (h : s.link.Bounded owed) (f : PendingTarget → Option Status) :
    (endPending f s).link.Bounded owed := by
  have length := ended_length f s.link.table
  rw [endPending_eq]
  refine { h with places := ?_, reserved := ?_, table := ?_, emptied := fun e => ?_, single := h.single.filter _ } <;>
    dsimp only
  · have := h.places
    have := h.reserved
    rw [List.length_append]
    omega
  · have := h.reserved
    omega
  · have := h.table
    omega
  · obtain ⟨hq, ht⟩ := h.emptied e
    rw [ht]
    exact ⟨hq, rfl⟩

/-- Whether a take is pending after requests have ended, among them the takes of the scenes that `gone` names. -/
theorem hasPending_endPending {f : PendingTarget → Option Status} {gone : Nat → Bool}
    (hf : ∀ k g, (f (.take k g)).isSome = gone k) (k : Nat) :
    (endPending f s).hasPending (·.isTakeOf k) = (s.hasPending (·.isTakeOf k) && !gone k) := by
  have stays : ∀ e : PendingRequest,
      ((f e.target).isNone && e.target.isTakeOf k) = (e.target.isTakeOf k && !gone k) := by
    intro e
    cases e.target with
    | take j g =>
      by_cases hj : j = k
      · subst j
        simp [PendingTarget.isTakeOf, ← hf k g]
      · simp [PendingTarget.isTakeOf, beq_false_of_ne hj]
    | assign | grab | reset => simp [PendingTarget.isTakeOf]
  rw [endPending_eq]
  simp only [State.hasPending, List.any_filter, stays]
  cases gone k <;> simp

/-- Requests end, among them the takes of the scenes that `gone` names, whose flags have been cleared (R81). -/
theorem Booked.ends (h : Booked owed s) {f : PendingTarget → Option Status} {gone : Nat → Bool}
    (hf : ∀ k g, (f (.take k g)).isSome = gone k) (hl : t.link = s.link)
    (hc : s.link.resetting = false → ∀ k, k < 16 →
      (t.scene k).takePending = ((s.scene k).takePending && !gone k)) : Booked owed (endPending f t) := by
  refine ⟨Link.Bounded.ends (hl ▸ h.link) f, fun hr k hk => ?_⟩
  have serving : s.link.resetting = false := hl ▸ hr
  have pending : t.hasPending (·.isTakeOf k) = s.hasPending (·.isTakeOf k) := by
    rw [State.hasPending, hl]
    rfl
  have flag : ((endPending f t).scene k).takePending = ((s.scene k).takePending && !gone k) := hc serving k hk
  rw [hasPending_endPending hf, pending, flag, Bool.and_eq_true, Bool.and_eq_true, h.flags serving k hk]

/-- The entry after its timeout count, if it has one, is counted at a boundary (R37). -/
def PendingRequest.counted (e : PendingRequest) : PendingRequest :=
  match e.target with
  | .grab i d left => { e with target := .grab i d (left - 1) }
  | .take .. | .assign .. | .reset .. => e

theorem PendingRequest.counted_clashes (e x : PendingRequest) :
    e.counted.target.clashes x.counted.target = e.target.clashes x.target := by
  obtain ⟨tag, e⟩ := e
  obtain ⟨tag', x⟩ := x
  cases e <;> cases x <;> rfl

theorem PendingRequest.counted_isTakeOf (e : PendingRequest) (k : Nat) :
    e.counted.target.isTakeOf k = e.target.isTakeOf k := by
  obtain ⟨tag, e⟩ := e
  cases e <;> rfl

/-- The timeout counts of the grabs decrease; no entry enters or leaves the table (R37). -/
theorem Booked.counted (h : Booked owed s) :
    Booked owed (s.setLink { s.link with table := s.link.table.map PendingRequest.counted }) := by
  have bounded := h.link
  refine ⟨{ bounded with reserved := ?_, table := ?_, emptied := fun e => ?_, single := ?_ }, fun hr k hk => ?_⟩
  · show s.link.reserved = (s.link.table.map PendingRequest.counted).length + owed
    rw [List.length_map, bounded.reserved]
  · show (s.link.table.map PendingRequest.counted).length ≤ 16
    rw [List.length_map]
    exact bounded.table
  · obtain ⟨hq, ht⟩ := bounded.emptied e
    exact ⟨hq, congrArg (List.map PendingRequest.counted) ht⟩
  · exact (List.pairwise_map (f := PendingRequest.counted)).2 (bounded.single.imp fun h => by
      rw [PendingRequest.counted_clashes]
      exact h)
  · have same : (s.setLink { s.link with table := s.link.table.map PendingRequest.counted }).hasPending (·.isTakeOf k)
        = s.hasPending (·.isTakeOf k) := by
      simp only [State.hasPending, State.setLink, List.any_map]
      congr 1
      funext e
      exact e.counted_isTakeOf k
    rw [same]
    exact h.flags hr k hk

end Sys2Proof.Machine
end

section
/-! ### Operations that leave the link alone

`OffLink` relates the part before and after an operation that touches neither the link nor a take pending flag and keeps
the scene tables sound: what every operation does but those that end, enter or answer requests. -/

namespace Sys2Proof.Machine

variable {s t u : State} {k w : Nat}

/-- The link and the take pending flags stay, and sound scene tables stay sound. -/
structure OffLink (s t : State) : Prop where
  booking : t.booking = s.booking
  tables : SceneTablesSound s → SceneTablesSound t

/-- The link, the scenes and the windows. -/
def State.listing (s : State) := (s.link, s.scenes, s.windows)

/-- Scene tables with the same scenes and windows are as sound. -/
theorem SceneTablesSound.of_banks (h : SceneTablesSound s) (hs : t.scenes = s.scenes) (hw : t.windows = s.windows) :
    SceneTablesSound t :=
  h.rewritten (fun k => by rw [State.scene, State.scene, hs]; exact ⟨rfl, rfl⟩) fun w _ => by
    rw [State.window, State.window, hw]
    exact ⟨rfl, id⟩

/-- An operation that leaves the link, the scenes and the windows. -/
theorem OffLink.same (h : t.listing = s.listing) : OffLink s t := by
  simp only [State.listing, Prod.mk.injEq] at h
  obtain ⟨hl, hs, hw⟩ := h
  exact ⟨by simp only [State.booking, State.scene, hl, hs], fun hsound => hsound.of_banks hs hw⟩

theorem OffLink.refl (s : State) : OffLink s s := ⟨rfl, id⟩

theorem OffLink.trans (h : OffLink s t) (h' : OffLink t u) : OffLink s u :=
  ⟨h'.booking.trans h.booking, h'.tables ∘ h.tables⟩

/-- Operations one after another. -/
theorem OffLink.foldl {α : Type} {f : State → α → State} (hf : ∀ s x, OffLink s (f s x)) (l : List α) :
    ∀ s, OffLink s (l.foldl f s) := by
  induction l with
  | nil => exact OffLink.refl
  | cons x rest ih => exact fun s => (hf s x).trans (ih _)

/-- An operation that may be left out. -/
theorem OffLink.ite {p : Prop} [Decidable p] {a b : State} (ha : OffLink s a) (hb : OffLink s b) :
    OffLink s (if p then a else b) := by
  split
  · exact ha
  · exact hb

/-- A window written with its binding kept, sound where it was sound. -/
theorem OffLink.setWindow {x : Window} (hb : x.binding = (s.window w).binding)
    (hx : (s.window w).Sound (s.inLive w) → x.Sound (s.inLive w)) : OffLink s (s.setWindow w x) :=
  ⟨rfl, fun h => h.setWindow hb hx⟩

/-! #### The time base and the event unit -/

theorem offLink_settlePresence (was : Bool) (s : State) : OffLink s (settlePresence was s) :=
  .same (by rw [settlePresence_eq]; rfl)

theorem offLink_lockPoint (period : Ticks) (s : State) : OffLink s (lockPoint period s) :=
  .same (by rw [lockPoint_eq]; rfl)

theorem offLink_settleStaged (s : State) : OffLink s (settleStaged s) := by
  unfold settleStaged
  split
  · exact .refl s
  · exact .same (by rw [settleState_eq, applyStaged_eq]; rfl)

theorem offLink_timeBoundary (b : Ticks) (s : State) : OffLink s (timeBoundary b s) := by
  have counted : OffLink (settleStaged (s.reach b)) (countHoldover (settleStaged (s.reach b))) :=
    .same (by rw [countHoldover_eq]; rfl)
  exact ((OffLink.same rfl : OffLink s (s.reach b)).trans (offLink_settleStaged _)).trans (counted.trans (.same rfl))

theorem offLink_pulse (b : Ticks) (s : State) : OffLink s (pulse b s) := .same (by rw [pulse_frame]; rfl)

theorem offLink_referenceLost (s : State) : OffLink s (referenceLost s) := by
  unfold referenceLost
  split
  · exact .refl s
  · rename_i p _
    have passed : ∀ x, OffLink s ((s.reach (p.time + (3 * s.time.rate.period) / 2)).setTime x) := fun x => .same rfl
    exact (passed _).trans (offLink_settlePresence _ _)

theorem offLink_holdoverEnds (s : State) : OffLink s (holdoverEnds s) :=
  .ite (.same (by rw [freeRunAtBoundary_eq]; rfl)) (.refl s)

theorem offLink_midway (i : Nat) (s : State) : OffLink s (midway i s) := by
  unfold midway
  split
  · exact .refl s
  · rename_i b half _
    have passed : ∀ v, OffLink s ((s.reach b).setInput i v) := fun v => .same rfl
    exact .ite ((passed _).trans (offLink_lockPoint _ _)) (passed _)

/-! #### The frame store and the capture units -/

theorem offLink_emptied (stored : Bool) (i : Nat) (s : State) : OffLink s (if stored then badEnd i s else s) :=
  .ite (.same (by rw [badEnd_eq]; rfl)) (.refl s)

theorem offLink_freeReservation (i : Nat) (s : State) : OffLink s (freeReservation i s) :=
  .same (by rw [freeReservation_eq]; rfl)

theorem offLink_retireStill (e : Nat) (s : State) : OffLink s (retireStill e s) :=
  .same (by rw [retireStill_eq]; rfl)

theorem offLink_reserveSlot (i : Nat) (s : State) : OffLink s (reserveSlot i s) := by
  unfold reserveSlot
  split <;> exact .same rfl

/-- A unit is written, with the events of its change (R14). -/
theorem offLink_unit (i : Nat) (u v : Input) (lost : Bool) (s : State) :
    OffLink s (raiseInput i u v lost (s.setInput i v)) :=
  .same (by rw [raiseInput_eq]; rfl)

theorem offLink_startFrame (i : Nat) (b : Ticks) (w h : Nat) (prog : Bool) (s : State) :
    OffLink s (startFrame i b w h prog s) :=
  .same (by rw [startFrame_eq]; rfl)

/-! #### The compositor and the ports -/

theorem offLink_claimSource (w : Nat) (b : Bool) (s : State) (src : Shown) : OffLink s (claimSource w b s src) := by
  rw [claimSource_eq]
  split <;> exact .same rfl

theorem offLink_claimScene (b : Bool) (brought : Nat → Shown → Bool) (s : State) (k : Nat) :
    OffLink s (claimScene b brought s k) :=
  .foldl (fun _ w => .foldl (fun s src => .ite (.refl s) (offLink_claimSource w b s src)) _ _) _ s

/-- A pin touches the window only where it unfreezes it (R51). -/
theorem offLink_pinWindow (ages : Vector Ring 16) (s : State) (w : Nat) : OffLink s (pinWindow ages s w) := by
  unfold pinWindow
  dsimp only
  split
  · split
    · split
      · exact .refl s
      · exact .ite (.setWindow rfl Window.Sound.unfrozen) (.ite (.same rfl) (.same rfl))
    · exact .refl s
  · exact .refl s

theorem offLink_claimPortStill (s : State) (p : Nat) : OffLink s (claimPortStill s p) := by
  unfold claimPortStill
  dsimp only
  split
  · split <;> exact .same rfl
  · exact .refl s

theorem offLink_makeClaims (frozen : List Nat) (s : State) : OffLink s (makeClaims frozen s) := by
  unfold makeClaims
  refine OffLink.trans ?_ (.foldl offLink_claimPortStill _ _)
  refine OffLink.trans ?_ (.foldl (offLink_claimScene false broughtNone) _ _)
  refine OffLink.trans ?_ (.foldl (offLink_pinWindow _) _ _)
  exact .same rfl

theorem offLink_composeNow (k : Nat) (s : State) : OffLink s (composeNow k s) := by
  refine .ite (.refl s) (OffLink.trans ?_ (offLink_claimScene _ _ _ k))
  exact .same rfl

theorem offLink_applyAssignNow (n : Nat) (scene : Option Nat) (s : State) : OffLink s (applyAssignNow n scene s) := by
  have assigned : ∀ x, OffLink s (s.setPort n x) := fun x => .same rfl
  unfold applyAssignNow
  dsimp only
  split
  · split
    · exact (assigned _).trans (offLink_composeNow _ _)
    · exact assigned _
  · exact assigned _

theorem offLink_takeCauses (n : Nat) (old p : Port) (s : State) : OffLink s (takeCauses n old p s) :=
  .same (by rw [takeCauses_eq]; rfl)

theorem offLink_setLine (line : OverrideLine) (level : Bool) (s : State) : OffLink s (s.setLine line level) := by
  cases line <;> exact .same rfl

theorem offLink_moveLine (line : OverrideLine) (level : Bool) (s : State) : OffLink s (moveLine line level s) :=
  (offLink_setLine line level s).trans
    (.foldl (fun s n => .ite (offLink_takeCauses n _ _ s) (.refl s)) _ _)

theorem offLink_applyPortSetup (q : PortSetupFields) (s : State) : OffLink s (applyPortSetup q s) :=
  .ite (.same rfl) (.ite (offLink_takeCauses _ _ _ s) (offLink_takeCauses _ _ _ s))

theorem offLink_startLine (s : State) : OffLink s (startLine s) := .ite (.same rfl) (.refl s)

/-! #### Windows -/

/-- A window is unfrozen (R53, R108). -/
theorem offLink_unfreeze (w : Nat) (b : Bool) (s : State) : OffLink s (unfreeze w b s) := by
  have thawed : OffLink s (s.setWindow w { s.window w with frozen := false }) := .setWindow rfl Window.Sound.unfrozen
  rw [unfreeze_eq]
  exact thawed.trans (.same rfl)

theorem offLink_unfreezeAll (i : Nat) (s : State) : OffLink s (unfreezeAll i s) :=
  .foldl (fun s w => offLink_unfreeze w true s) _ s

/-- Windows unfrozen all at once (R31). -/
theorem offLink_unfrozen (ns : List Nat) (pins : Vector (Option Nat) 64) (s : State) :
    OffLink s { s with windows := alter s.windows ns fun x => { x with frozen := false }, pins := pins } := by
  refine ⟨rfl, fun h => h.rewritten (fun _ => ⟨rfl, rfl⟩) fun w _ => ?_⟩
  have window := look_alter_cases s.windows ns (fun x => { x with frozen := false }) Window.reset w
  rcases window with e | e <;> rw [State.window, e]
  · exact ⟨rfl, Window.Sound.unfrozen⟩
  · exact ⟨rfl, id⟩

/-- The window of the tour that expires stands in a live list and is not frozen (R111). -/
theorem offLink_expireTour (hl : s.inLive w = true) (hf : (s.window w).frozen = false) :
    OffLink s (expireTour w s) := by
  have bound := bound_of_inLive hl
  unfold expireTour
  dsimp only
  split
  · refine .setWindow rfl fun h => ?_
    rw [hl] at h ⊢
    exact Window.sound_moving bound h.copies h.moving hf
  · rename_i q _
    let x : Window := { s.window w with tourRemaining := (s.window w).tourPeriod }
    have stepped : OffLink s (s.setWindow w (x.stepTo q)) := .setWindow (x.stepTo_binding q) fun h => by
      rw [hl] at h ⊢
      exact (Window.sound_moving (x := x) bound h.copies h.moving hf).stepTo bound hf q
    exact stepped.trans (.same rfl)

/-- Step (1) of a boundary for the tour of a window of a live list that is not frozen (R110). -/
theorem offLink_countTour (hl : s.inLive w = true) (hf : (s.window w).frozen = false) :
    OffLink s (countTour w s) := by
  refine .ite (.ite (offLink_expireTour hl hf) (.setWindow rfl fun h => ?_)) (.refl s)
  rw [hl] at h ⊢
  exact Window.sound_moving (bound_of_inLive hl) h.copies h.moving hf

theorem lt_of_inLive (h : s.inLive w = true) : w < 64 := by
  obtain ⟨k, hk⟩ := Option.ne_none_iff_exists'.1 (bound_of_inLive h)
  exact lt_of_bound hk

/-- Step (1) of a boundary for one window (R96 (1)). -/
theorem offLink_advanceWindow (s : State) (w : Nat) : OffLink s (advanceWindow s w) := by
  unfold advanceWindow
  split
  · rename_i h
    obtain ⟨hl, hf⟩ : s.inLive w = true ∧ (s.window w).frozen = false := by simpa using h
    have binding : (s.window w).advance.binding = (s.window w).binding := by rw [Window.advance_eq]
    have window := State.setWindow_window_same s w (s.window w).advance (lt_of_inLive hl)
    have inLive : (s.setWindow w (s.window w).advance).inLive w = s.inLive w :=
      inLive_congr (fun _ => rfl) (by rw [window, binding])
    have advanced : OffLink s (s.setWindow w (s.window w).advance) := .setWindow binding fun h => by
      rw [hl] at h ⊢
      exact h.advance (bound_of_inLive hl) hf
    refine advanced.trans (offLink_countTour ?_ ?_)
    · exact inLive.trans hl
    · rw [window, Window.advance_eq]
      exact hf
  · exact .refl s

/-- A freeze order carried out (R107, R108). A window with an order is bound. -/
theorem offLink_carryOutFreeze (s : State) (w : Nat) : OffLink s (carryOutFreeze s w) := by
  have unordered : (s.window w).freezeOrder ≠ .none → OffLink s (s.setWindow w (s.window w).unordered) := fun ho =>
    .setWindow rfl fun h => ⟨h.copies, h.moving, h.idle, h.frozen, fun hb => by
      rw [h.unbound hb] at ho
      exact absurd rfl ho⟩
  cases ho : (s.window w).freezeOrder with
  | none =>
    unfold carryOutFreeze
    simp only [ho]
    exact .refl s
  | on =>
    rw [carryOutFreeze_on ho]
    split
    · rename_i hl
      obtain ⟨hl, -⟩ : s.inLive w = true ∧ (s.window w).frozen = false := by simpa using hl
      refine .setWindow rfl fun h => ?_
      rw [hl]
      exact ⟨h.copies, transSound_none, nofun, fun _ => rfl, fun hb => absurd hb (bound_of_inLive hl)⟩
    · exact unordered (by rw [ho]; nofun)
  | off =>
    rw [carryOutFreeze_off ho]
    have ordered := unordered (by rw [ho]; nofun)
    exact .ite (ordered.trans (offLink_unfreeze _ _ _)) ordered

/-- A take (R98). -/
theorem offLink_applyTake (k f : Nat) (b : Bool) (s : State) : OffLink s (applyTake k f b s) := by
  refine ⟨?_, fun h => h.taken k f b⟩
  have link : (applyTake k f b s).link = s.link := by rw [applyTake_eq]
  simp only [State.booking, link, applyTake_takePending]

end Sys2Proof.Machine
end

section
/-! ### Every operation keeps the link bounded and the scene tables sound

`Keeps a b` relates the part before and after an operation that finds `a` reserved places owed, leaves `b` of them, and
keeps the scene tables sound: the events have none owed before and after, and the owner of a request, which finds one
owed, leaves none. -/

namespace Sys2Proof.Machine

variable {s t u : State} {a b c n : Nat} {tag kind : Byte} {status : Status}

structure Keeps (a b : Nat) (s t : State) : Prop where
  link : Booked a s → Booked b t
  tables : SceneTablesSound s → SceneTablesSound t

theorem OffLink.keeps (h : OffLink s t) : Keeps n n s t := ⟨fun hb => hb.of_booking h.booking, h.tables⟩

/-- An operation that leaves the link, the scenes and the windows. -/
theorem Keeps.same (h : t.listing = s.listing) : Keeps n n s t := (OffLink.same h).keeps

theorem Keeps.refl (s : State) : Keeps n n s s := (OffLink.refl s).keeps

theorem Keeps.trans (h : Keeps a b s t) (h' : Keeps b c t u) : Keeps a c s u :=
  ⟨h'.link ∘ h.link, h'.tables ∘ h.tables⟩

/-- One of two operations. -/
theorem Keeps.ite {p : Prop} [Decidable p] {x y : State} (hx : Keeps a b s x) (hy : Keeps a b s y) :
    Keeps a b s (if p then x else y) := by
  split
  · exact hx
  · exact hy

/-- An operation on the link keeps the scene tables sound. -/
theorem Keeps.onLink {l : Link} (h : Booked a s → Booked b (s.setLink l)) : Keeps a b s (s.setLink l) :=
  ⟨h, fun hs => hs.of_banks rfl rfl⟩

/-- What is off the link leaves the table. -/
theorem OffLink.link (h : OffLink s t) : t.link = s.link := congrArg Prod.fst h.booking

/-! #### Endings (R36, R37, R154) -/

/-- Requests other than takes end. -/
theorem keeps_endWhere {pick : PendingTarget → Bool} (hp : ∀ k g, pick (.take k g) = false) (status : Status)
    (s : State) : Keeps n n s (endWhere pick status s) :=
  ⟨fun h => h.ends (gone := fun _ => false) (fun k g => by rw [hp]; rfl) rfl fun _ k _ => (Bool.and_true _).symm,
    fun h => h.of_banks rfl rfl⟩

theorem keeps_failGrab (i : Nat) (status : Status) (s : State) : Keeps n n s (failGrab i status s) :=
  .ite ((offLink_freeReservation i s).keeps.trans (keeps_endWhere (fun _ _ => rfl) _ _)) (.refl s)

theorem keeps_completeGrab (i e m r : Nat) (s : State) : Keeps n n s (completeGrab i e m r s) := by
  have moved : OffLink s (s.grabMoved i e m r) := .same rfl
  have held : OffLink s ((retireStill e (s.grabMoved i e m r)).setStill e (some m)) :=
    (moved.trans (offLink_retireStill e _)).trans (.same rfl)
  rw [completeGrab_grabMoved]
  exact held.keeps.trans (keeps_endWhere (fun _ _ => rfl) _ _)

theorem keeps_countGrabs (s : State) : Keeps n n s (countGrabs s) :=
  (OffLink.foldl (fun s i => offLink_freeReservation i s) _ s).keeps.trans (.onLink Booked.counted)

/-! #### The events of an input link -/

theorem keeps_goodEnd (i q : Nat) (f : Format) (p : Picture) (s : State) : Keeps n n s (goodEnd i q f p s) := by
  unfold goodEnd
  dsimp only
  split
  · exact .refl s
  · rename_i m _
    have filled : ∀ x r, Keeps n n s ((s.setSlot m x).setRing i r) := fun x r => .same rfl
    split
    · exact (filled _ _).trans (keeps_completeGrab _ _ _ _ _)
    · exact filled _ _

theorem keeps_takeFrameEvent (i : Nat) (v : Input) (s : State) : Keeps n n s (takeFrameEvent i v s) := by
  have marked : ∀ s, OffLink s (markStale i s) := fun s => .same rfl
  exact .ite (((offLink_unit i _ v _ s).trans (marked _)).keeps.trans (keeps_failGrab _ _ _))
    (offLink_unit i _ v _ s).keeps

theorem keeps_endFrame (i : Nat) (x : Ticks) (cut : Bool) (p : Picture) (s : State) :
    Keeps n n s (endFrame i x cut p s) := by
  cases hf : (s.input i).frame with
  | none => rw [endFrame_none hf]; exact .refl s
  | some f =>
    rcases endFrame_cases hf x cut p with ⟨-, g, -, e⟩ | ⟨-, e⟩ <;> rw [e]
    · exact ((keeps_takeFrameEvent i _ s).trans (keeps_goodEnd _ _ _ _ _)).trans (offLink_settlePresence _ _).keeps
    · exact ((offLink_emptied _ i s).keeps.trans (keeps_takeFrameEvent _ _ _)).trans (offLink_settlePresence _ _).keeps

theorem keeps_reach (x : Ticks) (s : State) : Keeps n n s (s.reach x) := .same rfl

theorem keeps_frameStart (i : Nat) (x : Ticks) (w h : Nat) (prog : Bool) (s : State) :
    Keeps n n s (frameStart i x w h prog s) :=
  .ite (keeps_reach x s)
    (((keeps_reach x s).trans (keeps_endFrame _ _ _ _ _)).trans (offLink_startFrame _ _ _ _ _ _).keeps)

theorem keeps_frameEnd (i : Nat) (x : Ticks) (flagged : Bool) (p : Picture) (s : State) :
    Keeps n n s (frameEnd i x flagged p s) :=
  .ite (keeps_reach x s) ((keeps_reach x s).trans (keeps_endFrame _ _ _ _ _))

theorem keeps_expireTimer (i : Nat) (s : State) : Keeps n n s (expireTimer i s) := by
  unfold expireTimer
  split
  · exact .refl s
  · exact (((keeps_reach _ s).trans (offLink_emptied _ i _).keeps).trans (keeps_takeFrameEvent _ _ _)).trans
      (offLink_settlePresence _ _).keeps

/-! #### Input Setup and Input Reset -/

theorem keeps_releaseRing (i : Nat) (s : State) : Keeps n n s (releaseRing i s) := by
  unfold releaseRing
  refine Keeps.trans (OffLink.keeps ?_) (keeps_failGrab i .aborted _)
  exact (offLink_unfrozen (s.frozenOn i) (alter s.pins (s.frozenOn i) fun _ => none) s).trans (.same rfl)

theorem keeps_applyInputSetup (q : InputSetupFields) (s : State) : Keeps n n s (applyInputSetup q s) := by
  have stored : ∀ v, OffLink s (s.setInput q.input v) := fun v => .same rfl
  unfold applyInputSetup
  dsimp only
  split
  · exact (stored _).keeps
  · refine .same ?_
    rw [enableInput, raiseInput_eq]
    rfl
  · exact (((offLink_emptied _ q.input s).trans (offLink_unit _ _ _ _ _)).keeps.trans (keeps_releaseRing _ _)).trans
      (offLink_settlePresence _ _).keeps
  · exact (stored _).keeps

theorem keeps_resetInput (i : Nat) (s : State) : Keeps n n s (resetInput i s) := by
  have marked : ∀ s, OffLink s (markStale i s) := fun s => .same rfl
  refine Keeps.trans ?_ (offLink_settlePresence _ _).keeps
  refine Keeps.trans (OffLink.keeps ?_) (keeps_failGrab _ _ _)
  exact (((offLink_emptied _ i s).trans (offLink_unit i _ _ _ _)).trans (marked _)).trans (offLink_unfreezeAll i _)

end Sys2Proof.Machine
end

section
/-! ### Binding and staging at a ready link (R82 to R88) -/

namespace Sys2Proof.Machine

variable {s u : State} {tag kind : Byte} {status : Status} {w k : Nat} {c : Instr} {f : State → State}

/-- A request whose owner turns the part into `u` and answers leaves `u` with that reply (R150, R151). -/
theorem request_done (h : s.Ready) (hf : f (reservePlace s) = answer tag kind status (reservePlace u)) :
    whenRunning s (arrive c f) = .next (u.replied tag kind status []) := by
  rw [request_ready h, hf, answer_reserved]

/-- A window written, spelled by its bank. -/
theorem setWindow_eq (w : Nat) (x : Window) (s : State) :
    s.setWindow w x = { s with windows := put s.windows w x } := rfl

/-! #### Window Bind and Window Unbind (R82, R83) -/

/-- The first check of Window Bind that fails gives the reply (R82). -/
theorem windowBind_refused (h : s.Ready) (hc : checkBind w k s = some status) :
    exec (.windowBind tag w k) s = .next (s.replied tag 0x20 status []) :=
  request_done h (by
    have hr : checkBind w k (reservePlace s) = some status := hc
    simp only [requestBind, hr])

/-- An accepted Window Bind writes the binding alone (R82). -/
theorem windowBind_accepted (h : s.Ready) (hc : checkBind w k s = none) : exec (.windowBind tag w k) s =
    .next ((s.setWindow w { s.window w with binding := some k }).replied tag 0x20 .done []) :=
  request_done h (by
    have hr : checkBind w k (reservePlace s) = none := hc
    simp only [requestBind, hr]
    rfl)

theorem checkBind_range (h : 63 < w ∨ 15 < k) : checkBind w k s = some .range := by
  unfold checkBind
  rw [if_pos (by simpa using h)]

/-- A window bound to another scene is refused (R82). -/
theorem checkBind_other {j : Nat} (hw : w ≤ 63) (hk : k ≤ 15) (hb : (s.window w).binding = some j) (hj : j ≠ k) :
    checkBind w k s = some .owner := by
  unfold checkBind
  rw [if_neg (by simpa using And.intro hw hk)]
  simp only [hb]
  exact if_neg hj

/-- A window that is unbound, or bound to the scene itself, is accepted (R82). -/
theorem checkBind_free (hw : w ≤ 63) (hk : k ≤ 15) (hb : ∀ j, (s.window w).binding = some j → j = k) :
    checkBind w k s = none := by
  unfold checkBind
  rw [if_neg (by simpa using And.intro hw hk)]
  cases h : (s.window w).binding with
  | none => rfl
  | some j => exact if_pos (hb j h)

/-- A window bound to the scene that it is bound to is as it was. -/
theorem setWindow_rebound (h : (s.window w).binding = some k) :
    s.setWindow w { s.window w with binding := some k } = s := by
  have same : { s.window w with binding := some k } = s.window w := by rw [← h]
  rw [same, setWindow_eq, State.window, put_look]

/-- Whether a window stands in a list of its scene (R83). -/
theorem listed_iff : s.listed w = true ↔
    ∃ j, (s.window w).binding = some j ∧ (w ∈ (s.scene j).stagedList ∨ w ∈ (s.scene j).liveList) := by
  unfold State.listed
  cases (s.window w).binding <;> simp

/-- An accepted Window Unbind leaves the default record (R83). -/
theorem windowUnbind_accepted (h : s.Ready) (hw : w ≤ 63) (hl : s.listed w = false) : exec (.windowUnbind tag w) s =
    .next ((s.setWindow w Window.reset).replied tag 0x21 .done []) :=
  request_done h (by
    have hr : (reservePlace s).listed w = false := hl
    simp only [requestUnbind, Nat.not_lt.2 hw, hr, Bool.false_eq_true, if_false]
    rfl)

/-- A window of a staged or live list is not unbound (R83). -/
theorem windowUnbind_refused (h : s.Ready) (hw : w ≤ 63) (hl : s.listed w = true) : exec (.windowUnbind tag w) s =
    .next (s.replied tag 0x21 .state []) :=
  request_done h (by
    have hr : (reservePlace s).listed w = true := hl
    simp only [requestUnbind, Nat.not_lt.2 hw, hr, if_false, if_true])

/-- Settles O33: each request by its first check, and an accepted one by what it writes. -/
theorem bindingFollowsItsRules : Obligations.BindingFollowsItsRules := by
  intro tag w k s h
  refine ⟨fun hx => windowBind_refused h (checkBind_range hx), fun hw hk => ⟨fun j hj hne => ?_, fun hb hs => ?_,
    fun hb => ?_, fun hb => ?_⟩, fun hw => ?_, fun hw => ⟨fun j hj hl => ?_, fun hl => ?_⟩⟩
  · exact windowBind_refused h (checkBind_other hw hk hj hne)
  · exact hs.unbound w (Nat.lt_succ_of_le hw) hb
  · exact windowBind_accepted h (checkBind_free hw hk fun j hj => by rw [hb] at hj; cases hj)
  · rw [windowBind_accepted h (checkBind_free hw hk fun j hj => by rw [hb] at hj; cases hj; rfl),
      setWindow_rebound hb]
  · exact request_done h (by simp only [requestUnbind, hw, if_true])
  · exact windowUnbind_refused h hw (listed_iff.2 ⟨j, hj, hl⟩)
  · refine windowUnbind_accepted h hw (Bool.eq_false_iff.2 fun hlisted => ?_)
    obtain ⟨j, hj, hin⟩ := listed_iff.1 hlisted
    obtain ⟨hstaged, hlive⟩ := hl j hj
    exact hin.elim hstaged hlive

/-! #### Window Stage and Scene Stage (R84, R85, R87, R88) -/

theorem rectOk_iff (r : Rect) : rectOk r = true ↔
    r.x ≤ 1919 ∧ r.y ≤ 1079 ∧ 16 ≤ r.w ∧ r.w ≤ 1920 ∧ 16 ≤ r.h ∧ r.h ≤ 1080 := by
  simp [rectOk, within, and_assoc]

theorem colourOk_iff (c : Colour) : colourOk c = true ↔ c.y ≤ 1023 ∧ c.cb ≤ 1023 ∧ c.cr ≤ 1023 := by
  simp [colourOk, and_assoc]

/-- A field checked only under a code of another (Table 5.3). -/
theorem checked_iff {a b : Nat} {p : Bool} : (a != b || p) = true ↔ (a = b → p = true) := by
  by_cases h : a = b <;> simp [h]

/-- The ranges of Table 5.3 (R84 (1)). -/
theorem windowStageOk_iff (p : WindowStageFields) : windowStageOk p = true ↔
    p.window ≤ 63 ∧ p.source ≤ 4 ∧ p.index ≤ 15 ∧ p.tourCount ≤ 8 ∧ (p.source = 4 → 1 ≤ p.tourCount)
      ∧ (∀ e ∈ p.entries.take p.tourCount, e.1 ≤ 1 ∧ e.2 ≤ 15) ∧ 1 ≤ p.dwell ∧ p.dwell ≤ 600 ∧ p.cropMode ≤ 1
      ∧ (p.cropMode = 1 → p.crop.x ≤ 1919 ∧ p.crop.y ≤ 1079 ∧ 16 ≤ p.crop.w ∧ p.crop.w ≤ 1920 ∧ 16 ≤ p.crop.h
        ∧ p.crop.h ≤ 1080)
      ∧ p.dest.x ≤ 1919 ∧ p.dest.y ≤ 1079 ∧ 16 ≤ p.dest.w ∧ p.dest.w ≤ 1920 ∧ 16 ≤ p.dest.h ∧ p.dest.h ≤ 1080
      ∧ p.border ≤ 15 ∧ p.borderColour.y ≤ 1023 ∧ p.borderColour.cb ≤ 1023 ∧ p.borderColour.cr ≤ 1023
      ∧ p.fillColour.y ≤ 1023 ∧ p.fillColour.cb ≤ 1023 ∧ p.fillColour.cr ≤ 1023 ∧ p.transition ≤ 2
      ∧ (p.transition = 1 → 1 ≤ p.count ∧ p.count ≤ 63) ∧ (p.transition = 2 → 2 ≤ p.count ∧ p.count ≤ 255)
      ∧ p.delay ≤ 6 := by
  simp only [windowStageOk, Bool.and_eq_true, checked_iff, rectOk_iff, colourOk_iff, within, List.all_eq_true,
    decide_eq_true_eq, and_assoc]

/-- The ranges of Table 5.4 (R87 (1)). -/
theorem sceneStageOk_iff (p : SceneStageFields) : sceneStageOk p = true ↔
    p.scene ≤ 15 ∧ p.background.y ≤ 1023 ∧ p.background.cb ≤ 1023 ∧ p.background.cr ≤ 1023 ∧ p.count ≤ 8
      ∧ (∀ w ∈ p.windows.take p.count, w ≤ 63) ∧ (p.windows.take p.count).Nodup := by
  simp only [sceneStageOk, Bool.and_eq_true, colourOk_iff, List.all_eq_true, decide_eq_true_eq, and_assoc]

/-- A reserved place touches no check (R150). -/
theorem checkWindowStage_reserved (p : WindowStageFields) (s : State) :
    checkWindowStage p (reservePlace s) = checkWindowStage p s := by
  unfold checkWindowStage
  rfl

/-- The first check of Window Stage that fails gives the reply (R84). -/
theorem windowStage_refused (h : s.Ready) {p : WindowStageFields} (hc : checkWindowStage p s = some status) :
    exec (.windowStage tag p) s = .next (s.replied tag 0x22 status []) := by
  refine request_done (f := requestWindowStage tag p) h ?_
  unfold requestWindowStage
  rw [checkWindowStage_reserved, hc]

/-- An accepted Window Stage replaces the staged copy alone (R85). -/
theorem windowStage_accepted (h : s.Ready) {p : WindowStageFields} (hc : checkWindowStage p s = none) :
    exec (.windowStage tag p) s = .next ((s.setWindow p.window
      { s.window p.window with staged := stagedConfig p }).replied tag 0x22 .done []) := by
  refine request_done (f := requestWindowStage tag p) h ?_
  unfold requestWindowStage
  rw [checkWindowStage_reserved, hc]
  rfl

/-- The first check of Scene Stage that fails gives the reply (R87). -/
theorem sceneStage_refused (h : s.Ready) {p : SceneStageFields} (hc : checkSceneStage p s = some status) :
    exec (.sceneStage tag p) s = .next (s.replied tag 0x28 status []) :=
  request_done h (by
    have hr : checkSceneStage p (reservePlace s) = some status := hc
    simp only [requestSceneStage, hr])

/-- An accepted Scene Stage replaces the staged background and list alone (R88). -/
theorem sceneStage_accepted (h : s.Ready) {p : SceneStageFields} (hc : checkSceneStage p s = none) :
    exec (.sceneStage tag p) s = .next ((s.setScene p.scene { s.scene p.scene with
      stagedBackground := p.background, stagedList := p.windows.take p.count }).replied tag 0x28 .done []) :=
  request_done h (by
    have hr : checkSceneStage p (reservePlace s) = none := hc
    simp only [requestSceneStage, hr]
    rfl)

theorem sourceOf_eq (source index : Nat) : sourceOf source index =
    if source = 0 then .plain (.input index) else if source = 1 then .plain (.still index)
    else if source = 2 then .plain .fill else if source = 3 then .plain .pattern else .tour := by
  unfold sourceOf
  split <;> simp_all

theorem transitionOf_eq (transition count : Nat) : transitionOf transition count =
    if transition = 0 then .cut else if transition = 1 then .fill count else .mix count := by
  unfold transitionOf
  split <;> simp_all

/-- An opacity above 256 is stored as 256 (R85). -/
theorem opacity_eq (n : Nat) : min n 256 = if n ≤ 256 then n else 256 := Nat.min_def

/-- The windows staged for a scene are all bound to it, or the request is refused (R87). -/
theorem checkSceneStage_inRange {p : SceneStageFields} (h : sceneStageOk p = true) : checkSceneStage p s =
    if ∀ w ∈ p.windows.take p.count, (s.window w).binding = some p.scene then none else some .owner := by
  simp only [checkSceneStage, h, Bool.not_true, Bool.false_eq_true, if_false, List.all_eq_true, beq_iff_eq]

/-- Settles O34: the ranges, each request by its first check, and an accepted one by the staged copy it writes. -/
theorem stagingFollowsItsRules : Obligations.StagingFollowsItsRules := by
  refine ⟨windowStageOk_iff, sceneStageOk_iff, fun tag s h => ⟨fun p => ⟨fun hp => ?_, fun hp hb => ?_,
    fun k hp hb => ?_⟩, fun p => ⟨fun hp => ?_, fun hp hb => ?_, fun hp hb => ?_⟩⟩⟩
  · exact windowStage_refused h (by simp [checkWindowStage, hp])
  · exact windowStage_refused h (by simp [checkWindowStage, hp, hb])
  · rw [windowStage_accepted h (by simp [checkWindowStage, hp, hb])]
    unfold stagedConfig tourEntryOf
    rw [sourceOf_eq, transitionOf_eq, opacity_eq]
    rfl
  · exact sceneStage_refused h (by simp [checkSceneStage, hp])
  · refine sceneStage_refused h ((checkSceneStage_inRange hp).trans (if_neg fun hall => ?_))
    obtain ⟨w, hw, hne⟩ := hb
    exact hne (hall w hw)
  · exact sceneStage_accepted h ((checkSceneStage_inRange hp).trans (if_pos hb))

end Sys2Proof.Machine
end

section
/-! ### Every request gives its place to a reply or an entry, and keeps the scene tables sound -/

namespace Sys2Proof.Machine

variable {s t : State} {i e k w : Nat}

/-! #### Answers (R150, R151) -/

theorem keeps_queueReply (r : Reply) (s : State) : Keeps 1 0 s (queueReply r s) :=
  .onLink fun h => h.replies r

theorem keeps_answer (tag kind : Byte) (status : Status) (s : State) : Keeps 1 0 s (answer tag kind status s) :=
  keeps_queueReply _ s

theorem keeps_answerData (tag kind : Byte) (data : List Byte) (s : State) :
    Keeps 1 0 s (answerData tag kind data s) :=
  keeps_queueReply _ s

/-- A request done off the link is answered. -/
theorem OffLink.answered (h : OffLink s t) (tag kind : Byte) (status : Status) :
    Keeps 1 0 s (answer tag kind status t) :=
  h.keeps.trans (keeps_answer _ _ _ _)

/-! #### Entries of the table (R153) -/

/-- The requests of one target clash. -/
theorem clashes_take (x : PendingTarget) (k f : Nat) : x.clashes (.take k f) = x.isTakeOf k := by cases x <;> rfl
theorem clashes_assign (x : PendingTarget) (n : Nat) (k : Option Nat) :
    x.clashes (.assign n k) = x.isAssignOf n := by cases x <;> rfl
theorem clashes_reset (x : PendingTarget) (i : Nat) : x.clashes (.reset i) = x.isResetOf i := by cases x <;> rfl
theorem clashes_grab (x : PendingTarget) (i e left : Nat) :
    x.clashes (.grab i e left) = (x.isGrabOf i || x.isGrabInto e) := by cases x <;> rfl

theorem not_hasPending_iff {pick : PendingTarget → Bool} :
    s.hasPending pick = false ↔ ∀ x ∈ s.link.table, pick x.target = false := by
  simp [State.hasPending]

theorem hasPending_enterTable (tag : Byte) (x : PendingTarget) (pick : PendingTarget → Bool) (s : State) :
    (enterTable tag x s).hasPending pick = (s.hasPending pick || pick x) := by
  simp [State.hasPending, enterTable, State.setLink]

/-- A request enters the table, with the flag of its scene set where it is a take (R81, R153). -/
theorem Booked.enters (h : Booked 1 s) (tag : Byte) {x : PendingTarget} (hl : t.link = s.link)
    (hf : ∀ k, k < 16 → (t.scene k).takePending = ((s.scene k).takePending || x.isTakeOf k))
    (ht : s.tableFull = false) (hx : s.hasPending (·.clashes x) = false) : Booked 0 (enterTable tag x t) := by
  have table : ∀ y ∈ t.link.table, y.target.clashes x = false := hl ▸ not_hasPending_iff.1 hx
  have full : t.tableFull = false := by rw [State.tableFull, hl]; exact ht
  refine ⟨Link.Bounded.enters (hl ▸ h.link) tag full table, fun hr k hk => ?_⟩
  have pending : t.hasPending (·.isTakeOf k) = s.hasPending (·.isTakeOf k) := by
    rw [State.hasPending, hl]
    rfl
  have flag : ((enterTable tag x t).scene k).takePending = ((s.scene k).takePending || x.isTakeOf k) := hf k hk
  rw [hasPending_enterTable, pending, flag, Bool.or_eq_true, Bool.or_eq_true, h.flags (hl ▸ hr) k hk]

/-- A request that is no take enters the table. -/
theorem keeps_enterTable (tag : Byte) {x : PendingTarget} (hn : ∀ k, x.isTakeOf k = false) (ht : s.tableFull = false)
    (hx : s.hasPending (·.clashes x) = false) : Keeps 1 0 s (enterTable tag x s) :=
  .onLink fun h => h.enters tag rfl (fun k _ => by rw [hn, Bool.or_false]) ht hx

theorem checkInputReset_free (h : checkInputReset i s = none) :
    s.tableFull = false ∧ s.hasPending (·.clashes (.reset i)) = false := by
  simp only [clashes_reset]
  unfold checkInputReset at h
  split_ifs at h with _ _ hb
  obtain ⟨hreset, hfull⟩ : s.hasPending (·.isResetOf i) = false ∧ s.tableFull = false := by simpa using hb
  exact ⟨hfull, hreset⟩

theorem checkGrab_free (left : Nat) (h : checkGrab i e s = none) :
    s.tableFull = false ∧ s.hasPending (·.clashes (.grab i e left)) = false := by
  unfold checkGrab at h
  split_ifs at h with _ _ hb
  simp only [Bool.or_eq_true, not_or, Bool.not_eq_true] at hb
  obtain ⟨⟨hof, hinto⟩, hfull⟩ := hb
  refine ⟨hfull, not_hasPending_iff.2 fun x hx => ?_⟩
  rw [clashes_grab, not_hasPending_iff.1 hof x hx, not_hasPending_iff.1 hinto x hx]
  rfl

theorem checkAssign_free {n : Nat} (o : Option Nat) (h : checkAssign n k true s = none) :
    s.tableFull = false ∧ s.hasPending (·.clashes (.assign n o)) = false := by
  simp only [clashes_assign]
  unfold checkAssign at h
  split_ifs at h with _ hb hfull
  exact ⟨by simpa using hfull, Bool.eq_false_iff.2 hb⟩

theorem checkTake_free (h : checkTake k true s = none) :
    k < 16 ∧ (s.scene k).takePending = false ∧ s.tableFull = false := by
  unfold checkTake at h
  split_ifs at h with hk hb hfull
  exact ⟨by omega, Bool.eq_false_iff.2 hb, by simpa using hfull⟩

/-! #### Sections 1 and 2 -/

theorem keeps_requestInputSetup (tag : Byte) (q : InputSetupFields) (s : State) :
    Keeps 1 0 s (requestInputSetup tag q s) := by
  unfold requestInputSetup
  split
  · exact keeps_answer _ _ _ s
  · exact (keeps_applyInputSetup q s).trans (keeps_answer _ _ _ _)

theorem keeps_requestInputReset (tag : Byte) (i : Nat) (s : State) : Keeps 1 0 s (requestInputReset tag i s) := by
  unfold requestInputReset
  split
  · exact keeps_answer _ _ _ s
  · rename_i hc
    obtain ⟨hfull, hclash⟩ := checkInputReset_free hc
    exact (keeps_enterTable tag (fun _ => rfl) hfull hclash).trans (keeps_resetInput i _)

theorem keeps_requestInputQuery (tag : Byte) (i clear : Nat) (s : State) :
    Keeps 1 0 s (requestInputQuery tag i clear s) := by
  have answered := keeps_answerData tag 0x12 (inputQueryData i s) s
  exact .ite (.ite (answered.trans (.same rfl)) answered) (keeps_answer _ _ _ s)

theorem keeps_requestGrab (tag : Byte) (i e : Nat) (s : State) : Keeps 1 0 s (requestGrab tag i e s) := by
  unfold requestGrab
  split
  · exact keeps_answer _ _ _ s
  · rename_i hc
    obtain ⟨hfull, hclash⟩ := checkGrab_free Config.grabTimeout hc
    have reserved := offLink_reserveSlot i s
    have table : (reserveSlot i s).link = s.link := reserved.link
    refine reserved.keeps.trans (keeps_enterTable tag (fun _ => rfl) ?_ ?_)
    · rw [State.tableFull, table]
      exact hfull
    · rw [State.hasPending, table]
      exact hclash

theorem keeps_requestDrop (tag : Byte) (e : Nat) (s : State) : Keeps 1 0 s (requestDrop tag e s) := by
  have dropped : OffLink s ((retireStill e s).setStill e none) := (offLink_retireStill e s).trans (.same rfl)
  exact .ite (keeps_answer _ _ _ s) (.ite (keeps_answer _ _ _ s) (dropped.answered _ _ _))

theorem keeps_requestStoreQuery (tag : Byte) (v i : Nat) (s : State) : Keeps 1 0 s (requestStoreQuery tag v i s) :=
  .ite (keeps_answerData _ _ _ s) (keeps_answer _ _ _ s)

/-! #### Section 5 (R82 to R90) -/

/-- An accepted Window Bind binds a window that is bound to the scene already, or one in its default record (R82). -/
theorem SceneTablesSound.bind (h : SceneTablesSound s) (hc : checkBind w k s = none) :
    SceneTablesSound (s.setWindow w { s.window w with binding := some k }) := by
  unfold checkBind at hc
  split_ifs at hc with hr
  have small : w < 64 := by
    simp only [Bool.or_eq_true, decide_eq_true_eq] at hr
    omega
  cases hb : (s.window w).binding with
  | some j =>
    simp only [hb] at hc
    split_ifs at hc with hj
    rw [setWindow_rebound (hj ▸ hb)]
    exact h
  | none =>
    have unlisted : ∀ l j, s.Lists j l → w ∉ l := fun l j ⟨_, _, bound⟩ hm => by
      obtain ⟨-, hj⟩ := bound w hm
      rw [hb] at hj
      cases hj
    refine h.rebind small (fun j hj => ⟨unlisted _ j (h.staged j hj), unlisted _ j (h.live j hj)⟩) ?_
    rw [h.unbound w small hb]
    exact Window.sound_still nofun Window.sound_reset.copies rfl (fun _ => rfl) rfl

/-- A window that stands in no list of its scene stands in no list (R80, R83). -/
theorem SceneTablesSound.unbind (h : SceneTablesSound s) (hw : w < 64) (hl : s.listed w = false) :
    SceneTablesSound (s.setWindow w Window.reset) := by
  have unlisted : ∀ j, j < 16 → ¬(w ∈ (s.scene j).stagedList ∨ w ∈ (s.scene j).liveList) := fun j hj hm => by
    have bound : (s.window w).binding = some j :=
      hm.elim (fun hm => (State.Lists.bound (h.staged j hj) hm).2) fun hm => (State.Lists.bound (h.live j hj) hm).2
    exact Bool.eq_false_iff.1 hl (listed_iff.2 ⟨j, bound, hm⟩)
  exact h.rebind hw (fun j hj => not_or.1 (unlisted j hj)) Window.sound_reset

/-- The copy that an accepted Window Stage writes is sound, where the frame gave a tour list its eight entries (Table
5.3, R76, R77, R85). -/
theorem stagedConfig_sound {q : WindowStageFields} (h : windowStageOk q = true) (he : q.entries.length = 8) :
    ConfigSound (stagedConfig q) := by
  obtain ⟨-, hsource, -, hcount, htour, -, hdwell, hdwell', -, -, -, -, -, -, -, -, hborder,
    -, -, -, -, -, -, htrans, hfill, hmix, hdelay⟩ := (windowStageOk_iff q).1 h
  have transition : (stagedConfig q).transition = if q.transition = 0 then .cut
      else if q.transition = 1 then .fill q.count else .mix q.count := transitionOf_eq _ _
  constructor
  case tour =>
    intro ht
    have coded : q.source = 4 := by
      have source := (sourceOf_eq q.source q.index).symm.trans ht
      split_ifs at source
      omega
    have := htour coded
    show 1 ≤ ((q.entries.take q.tourCount).map tourEntryOf).length
      ∧ ((q.entries.take q.tourCount).map tourEntryOf).length ≤ 8
    rw [List.length_map, List.length_take]
    omega
  case dwell => exact ⟨hdwell, hdwell'⟩
  case opacity => exact Nat.min_le_right _ _
  case border => exact hborder
  case delay => exact hdelay
  case fill =>
    intro n hn
    rw [transition] at hn
    split_ifs at hn with _ h1
    cases hn
    exact hfill h1
  case mix =>
    intro n hn
    rw [transition] at hn
    split_ifs at hn
    cases hn
    exact hmix (by omega)

/-- An accepted Window Stage writes a sound copy of a bound window (R84, R85). -/
theorem offLink_stageWindow {q : WindowStageFields} (hc : checkWindowStage q s = none) (he : q.entries.length = 8) :
    OffLink s (s.setWindow q.window { s.window q.window with staged := stagedConfig q }) := by
  unfold checkWindowStage at hc
  split_ifs at hc with hok hb
  have sound := stagedConfig_sound (by simpa using hok) he
  refine .setWindow rfl fun h => ⟨⟨sound, h.copies.2⟩, h.moving, h.idle, h.frozen, fun hn => ?_⟩
  rw [show (s.window q.window).binding = none from hn] at hb
  exact absurd rfl hb

/-- An accepted Scene Stage writes a list of at most eight windows, each once, that are bound to the scene (R80,
R87). -/
theorem offLink_stageScene {q : SceneStageFields} (hc : checkSceneStage q s = none) :
    OffLink s (s.setScene q.scene { s.scene q.scene with
      stagedBackground := q.background, stagedList := q.windows.take q.count }) := by
  have ok : sceneStageOk q = true := by
    unfold checkSceneStage at hc
    split_ifs at hc with hok
    simpa using hok
  have bound : ∀ w ∈ q.windows.take q.count, (s.window w).binding = some q.scene := by
    rw [checkSceneStage_inRange ok] at hc
    split_ifs at hc with hall
    exact hall
  obtain ⟨-, -, -, -, hcount, hsmall, hnodup⟩ := (sceneStageOk_iff q).1 ok
  have lists : s.Lists q.scene (q.windows.take q.count) :=
    ⟨(List.length_take_le _ _).trans hcount, hnodup, fun w hw => ⟨Nat.lt_succ_of_le (hsmall w hw), bound w hw⟩⟩
  exact ⟨booking_setScene rfl, fun h => h.restage rfl lists⟩

theorem keeps_requestBind (tag : Byte) (w k : Nat) (s : State) : Keeps 1 0 s (requestBind tag w k s) := by
  unfold requestBind
  split
  · exact keeps_answer _ _ _ s
  · have bound : OffLink s (s.setWindow w { s.window w with binding := some k }) := ⟨rfl, fun h => h.bind ‹_›⟩
    exact bound.answered _ _ _

theorem keeps_requestUnbind (tag : Byte) (w : Nat) (s : State) : Keeps 1 0 s (requestUnbind tag w s) := by
  unfold requestUnbind
  split_ifs with hw hl
  · exact keeps_answer _ _ _ s
  · exact keeps_answer _ _ _ s
  · have unbound : OffLink s (s.setWindow w Window.reset) :=
      ⟨rfl, fun h => h.unbind (by omega) (Bool.eq_false_iff.2 hl)⟩
    exact unbound.answered _ _ _

/-- A Window Stage whose frame gives the tour list its eight entries (Table 5.3). -/
theorem keeps_requestWindowStage (tag : Byte) {q : WindowStageFields} (he : q.entries.length = 8) (s : State) :
    Keeps 1 0 s (requestWindowStage tag q s) := by
  unfold requestWindowStage
  split
  · exact keeps_answer _ _ _ s
  · exact (offLink_stageWindow ‹_› he).answered _ _ _

theorem keeps_requestSceneStage (tag : Byte) (q : SceneStageFields) (s : State) :
    Keeps 1 0 s (requestSceneStage tag q s) := by
  unfold requestSceneStage
  split
  · exact keeps_answer _ _ _ s
  · exact (offLink_stageScene ‹_›).answered _ _ _

theorem keeps_requestWindowQuery (tag : Byte) (w : Nat) (s : State) : Keeps 1 0 s (requestWindowQuery tag w s) :=
  .ite (keeps_answerData _ _ _ s) (keeps_answer _ _ _ s)

theorem keeps_requestSceneQuery (tag : Byte) (k : Nat) (s : State) : Keeps 1 0 s (requestSceneQuery tag k s) :=
  .ite (keeps_answerData _ _ _ s) (keeps_answer _ _ _ s)

/-! #### Section 6 (R97, R101, R106) -/

/-- The order of an accepted Window Freeze goes to a window of a live list (R106). -/
theorem keeps_requestFreeze (tag : Byte) (w f : Nat) (s : State) : Keeps 1 0 s (requestFreeze tag w f s) := by
  unfold requestFreeze
  split
  · exact keeps_answer _ _ _ s
  · rename_i hc
    have live : s.inLive w = true := by
      unfold checkFreeze at hc
      split_ifs at hc with _ hl
      simpa using hl
    have ordered : ∀ order, OffLink s (s.setWindow w { s.window w with freezeOrder := order }) := fun order =>
      .setWindow rfl fun h => ⟨h.copies, h.moving, h.idle, h.frozen, fun hb => absurd hb (bound_of_inLive live)⟩
    exact (ordered _).answered _ _ _

/-- An accepted FRAME take sets the flag of its scene and enters the table (R81, R97). -/
theorem keeps_requestTakeFrame (tag : Byte) (k : Nat) (s : State) : Keeps 1 0 s (requestTakeFrame tag k s) := by
  unfold requestTakeFrame
  split
  · exact keeps_answer _ _ _ s
  · rename_i hc
    obtain ⟨hk, hflag, hfull⟩ := checkTake_free hc
    refine ⟨fun h => h.enters tag rfl (fun j _ => ?_) hfull ?_, fun h => ?_⟩
    · by_cases hj : j = k
      · subst j
        rw [State.setScene_scene_same _ _ _ hk]
        simp [PendingTarget.isTakeOf]
      · rw [State.setScene_scene_ne _ _ _ _ hj]
        simp [PendingTarget.isTakeOf, Ne.symm hj]
    · simp only [clashes_take]
      rw [Bool.eq_false_iff, Ne, ← h.flags (h.link.serving nofun) k hk, hflag]
      nofun
    · exact (h.setScene (k := k) (c := { s.scene k with takePending := true }) ⟨rfl, rfl⟩).of_banks rfl rfl

theorem keeps_requestTakeNow (tag : Byte) (k : Nat) (s : State) : Keeps 1 0 s (requestTakeNow tag k s) := by
  have taken := offLink_applyTake k s.factor true s
  unfold requestTakeNow
  dsimp only
  split
  · exact keeps_answer _ _ _ s
  · exact (OffLink.ite (taken.trans (offLink_claimScene _ _ _ k)) taken).answered _ _ _

end Sys2Proof.Machine
end

section
/-! ### The boundary and the other requests -/

namespace Sys2Proof.Machine

variable {s t u : State} {n k : Nat} {gone gone' : Nat → Bool}

/-! #### Takes carried out (R81, R100) -/

/-- The link stays, the take pending flags of the scenes that `gone` names are cleared, and sound scene tables stay
sound. -/
structure Clears (gone : Nat → Bool) (s t : State) : Prop where
  link : t.link = s.link
  flags : ∀ k, k < 16 → (t.scene k).takePending = ((s.scene k).takePending && !gone k)
  tables : SceneTablesSound s → SceneTablesSound t

theorem OffLink.flag (h : OffLink s t) (k : Nat) : (t.scene k).takePending = (s.scene k).takePending :=
  congrFun (congrArg Prod.snd h.booking) k

theorem OffLink.clears (h : OffLink s t) : Clears (fun _ => false) s t :=
  ⟨h.link, fun k _ => (h.flag k).trans (Bool.and_true _).symm, h.tables⟩

theorem Clears.trans (h : Clears gone s t) (h' : Clears gone' t u) : Clears (fun k => gone k || gone' k) s u :=
  ⟨h'.link.trans h.link, fun k hk => by rw [h'.flags k hk, h.flags k hk, Bool.not_or, Bool.and_assoc],
    h'.tables ∘ h.tables⟩

/-- What is off the link clears nothing more. -/
theorem Clears.offLink (h : Clears gone s t) (h' : OffLink t u) : Clears gone s u :=
  ⟨h'.link.trans h.link, fun k hk => (h'.flag k).trans (h.flags k hk), h'.tables ∘ h.tables⟩

/-- A pending take applied clears the flag of its scene (R81, R100). -/
theorem clears_applyPendingTake (s : State) (take : Nat × Nat) :
    Clears (fun k => take.1 == k) s (applyPendingTake s take) := by
  have taken := offLink_applyTake take.1 take.2 false s
  refine ⟨taken.link, fun k hk => ?_, fun h => (taken.tables h).setScene ⟨rfl, rfl⟩⟩
  unfold applyPendingTake clearTakePending
  by_cases e : k = take.1
  · subst e
    rw [State.setScene_scene_same _ _ _ hk, beq_self_eq_true]
    exact (Bool.and_false _).symm
  · rw [State.setScene_scene_ne _ _ _ _ e, taken.flag, beq_false_of_ne (Ne.symm e)]
    exact (Bool.and_true _).symm

theorem clears_applyPendingTakes (takes : List (Nat × Nat)) :
    ∀ s, Clears (fun k => takes.any fun take => take.1 == k) s (takes.foldl applyPendingTake s) := by
  induction takes with
  | nil => exact fun s => (OffLink.refl s).clears
  | cons take rest ih => exact fun s => (clears_applyPendingTake s take).trans (ih _)

/-- A take of a scene is pending where the pending takes name the scene. -/
theorem hasPending_isTakeOf (k : Nat) (s : State) :
    s.hasPending (·.isTakeOf k) = s.pendingTakes.any fun take => take.1 == k := by
  rw [pendingTakes_eq, List.any_filterMap, State.hasPending]
  congr 1
  funext e
  rw [← pendingTake_any]
  cases e.pendingTake <;> rfl

/-! #### The boundary (R96, R100, R154) -/

theorem offLink_advanceWindows (ws : List Nat) (s : State) : OffLink s (ws.foldl advanceWindow s) :=
  .foldl offLink_advanceWindow ws s

/-- The scene tables' steps clear the flags of the takes that are pending (R96, R100). -/
theorem clears_advanceAndTake (s : State) :
    Clears (fun k => s.pendingTakes.any fun take => take.1 == k) s (advanceAndTake s) := by
  have advanced := offLink_advanceWindows windowNumbers s
  have takes : (windowNumbers.foldl advanceWindow s).pendingTakes = s.pendingTakes := by
    rw [pendingTakes_eq, pendingTakes_eq, advanced.link]
  have both := advanced.clears.trans
    (clears_applyPendingTakes (windowNumbers.foldl advanceWindow s).pendingTakes _)
  unfold advanceAndTake
  dsimp only
  rw [takes] at both ⊢
  simpa only [Bool.false_or] using both

theorem offLink_carryOutFreezes (s : State) : OffLink s (carryOutFreezes s) := by
  unfold carryOutFreezes
  exact .foldl offLink_carryOutFreeze windowNumbers s

theorem offLink_portBoundary (s : State) : OffLink s (portBoundary s) := .same rfl

theorem clears_pictureBoundary (s : State) :
    Clears (fun k => s.pendingTakes.any fun take => take.1 == k) s (pictureBoundary s) := by
  have finished : ∀ t, OffLink t (makeClaims t.freezing (portBoundary (carryOutFreezes t))) := fun t =>
    ((offLink_carryOutFreezes t).trans (offLink_portBoundary _)).trans (offLink_makeClaims _ _)
  unfold pictureBoundary
  exact (clears_advanceAndTake s).offLink (finished _)

/-- Requests end once the flags of the takes among them have been cleared (R81, R154). -/
theorem Clears.ends (h : Clears gone s t) {f : PendingTarget → Option Status}
    (hf : ∀ k g, (f (.take k g)).isSome = gone k) : Keeps n n s (endPending f t) :=
  ⟨fun hs => hs.ends hf h.link fun _ => h.flags, fun hs => (h.tables hs).of_banks rfl rfl⟩

/-- At a boundary every pending take ends, and its flag has been cleared (R81, R100, R154). -/
theorem keeps_endAtBoundary (s : State) : Keeps n n s (endPending PendingTarget.atBoundary (pictureBoundary s)) := by
  have cleared := clears_pictureBoundary s
  generalize pictureBoundary s = t at cleared
  refine ⟨fun h => h.ends (gone := fun _ => true) (fun _ _ => rfl) cleared.link fun hr k hk => ?_,
    fun h => (cleared.tables h).of_banks rfl rfl⟩
  rw [cleared.flags k hk, ← hasPending_isTakeOf, Bool.eq_iff_iff.2 (h.flags hr k hk)]
  cases s.hasPending (·.isTakeOf k) <;> rfl

theorem offLink_releaseClaims (s : State) : OffLink s (releaseClaims s) := .same rfl

theorem keeps_takeBoundary (b : Ticks) (s : State) : Keeps n n s (takeBoundary b s) := by
  have opened : Keeps n n s (countGrabs (releaseClaims (timeBoundary b s))) :=
    ((offLink_timeBoundary b s).trans (offLink_releaseClaims _)).keeps.trans (keeps_countGrabs _)
  have ended := opened.trans (keeps_endAtBoundary _)
  unfold takeBoundary
  dsimp only
  generalize endPending PendingTarget.atBoundary _ = t at ended
  exact ended.trans (.same rfl)

/-- A pending take applied alone ends with its flag cleared (R100; log entry 2). -/
theorem keeps_sceneTakeApply (s : State) (take : Nat × Nat) :
    Keeps n n s (endWhere (·.isTakeOf take.1) .done (applyPendingTake s take)) := by
  refine (clears_applyPendingTake s take).ends fun j g => ?_
  rw [Bool.beq_comm]
  show (if j == take.1 then some Status.done else none).isSome = _
  cases j == take.1 <;> rfl

/-! #### Requests of Sections 4, 8 and 10 -/

theorem keeps_requestTimingSetup (tag : Byte) (rate source input : Nat) (s : State) :
    Keeps 1 0 s (requestTimingSetup tag rate source input s) := by
  have staged : ∀ x, OffLink s (s.setTime x) := fun x => .same rfl
  exact .ite ((staged _).answered _ _ _) (keeps_answer _ _ _ s)

theorem keeps_requestPortSetup (tag : Byte) (q : PortSetupFields) (s : State) :
    Keeps 1 0 s (requestPortSetup tag q s) :=
  .ite ((offLink_applyPortSetup q s).answered _ _ _) (keeps_answer _ _ _ s)

theorem keeps_requestHold (tag : Byte) (n : Nat) (s : State) : Keeps 1 0 s (requestHold tag n s) :=
  .ite (keeps_answer _ _ _ s) (.ite (keeps_answer _ _ _ s) ((offLink_takeCauses _ _ _ s).answered _ _ _))

theorem keeps_requestResume (tag : Byte) (n : Nat) (s : State) : Keeps 1 0 s (requestResume tag n s) := by
  have resumed : ∀ x, OffLink s (s.setPort n x) := fun x => .same rfl
  unfold requestResume
  split
  · exact keeps_answer _ _ _ s
  · exact (resumed _).answered _ _ _

theorem keeps_requestAssignFrame (tag : Byte) (n k : Nat) (s : State) :
    Keeps 1 0 s (requestAssignFrame tag n k s) := by
  unfold requestAssignFrame
  split
  · exact keeps_answer _ _ _ s
  · obtain ⟨hfull, hclash⟩ := checkAssign_free (assignedOf k) ‹_›
    exact keeps_enterTable tag (fun _ => rfl) hfull hclash

theorem keeps_requestAssignNow (tag : Byte) (n k : Nat) (s : State) : Keeps 1 0 s (requestAssignNow tag n k s) := by
  unfold requestAssignNow
  split
  · exact keeps_answer _ _ _ s
  · exact (offLink_applyAssignNow _ _ s).answered _ _ _

theorem keeps_requestPortQuery (tag : Byte) (n : Nat) (s : State) : Keeps 1 0 s (requestPortQuery tag n s) :=
  .ite (keeps_answerData _ _ _ s) (keeps_answer _ _ _ s)

theorem keeps_requestEventEnable (tag : Byte) (es ms : List Nat) (s : State) :
    Keeps 1 0 s (requestEventEnable tag es ms s) := by
  have enabled : ∀ x, OffLink s (s.setEvents x) := fun x => .same rfl
  exact .ite ((enabled _).answered _ _ _) (keeps_answer _ _ _ s)

theorem keeps_requestEventAck (tag : Byte) (event inst : Nat) (s : State) :
    Keeps 1 0 s (requestEventAck tag event inst s) := by
  have acknowledged : ∀ x, OffLink s (s.setEvents x) := fun x => .same rfl
  exact .ite ((acknowledged _).answered _ _ _) (keeps_answer _ _ _ s)

/-! #### Requests of Section 9 -/

/-- The error counter cleared (R155). -/
theorem Booked.errorsCleared (h : Booked n s) : Booked n (s.setLink { s.link with errors := 0 }) :=
  have bounded := h.link
  ⟨{ bounded with errors := Nat.zero_le _ }, h.flags⟩

theorem keeps_requestDeviceQuery (tag : Byte) (clear : Nat) (s : State) :
    Keeps 1 0 s (requestDeviceQuery tag clear s) := by
  have answered := keeps_answerData tag 0x3E (deviceQueryData s) s
  exact .ite (.ite (answered.trans (.onLink Booked.errorsCleared)) answered) (keeps_answer _ _ _ s)

/-- The link after a Device Reset has been dispatched: nothing waits, and every pending request has its reply (R156). -/
theorem requestDeviceReset_link (tag : Byte) (s : State) : (requestDeviceReset tag s).link = { s.link with
    queue := [], resetting := true, table := []
    replies := s.link.replies ++ s.link.table.map (PendingRequest.reply · .aborted) ++ [⟨tag, 0x3F, .done, []⟩]
    reserved := s.link.reserved - s.link.table.length - 1 } := by
  have ended := endWhere_link (fun _ => true) .aborted (s.setLink { s.link with queue := [], resetting := true })
  simp only [State.setLink_link, Bool.not_true, List.filter_false, List.filter_true] at ended
  simp only [requestDeviceReset, answer, queueReply, State.setLink_link, ended]

theorem keeps_requestDeviceReset (tag : Byte) (s : State) : Keeps 1 0 s (requestDeviceReset tag s) := by
  refine ⟨fun h => ⟨?_, fun hr => ?_⟩, fun h => h.of_banks rfl rfl⟩
  · have places := h.link.places
    have reserved := h.link.reserved
    rw [requestDeviceReset_link]
    refine { h.link with
      queue := Nat.zero_le _, places := ?_, reserved := ?_, table := Nat.zero_le _
      emptied := fun _ => ⟨rfl, rfl⟩, single := .nil, serving := fun h => absurd rfl h }
    · simp only [List.length_append, List.length_map, List.length_singleton]
      omega
    · simp only [List.length_nil]
      omega
  · rw [requestDeviceReset_link] at hr
    cases hr

end Sys2Proof.Machine
end

section
/-! ### Every step keeps the link bounded and the scene tables sound (O8, O13) -/

namespace Sys2Proof.Machine

variable {s t : State} {c : Instr} {n w : Nat}

/-! #### What a frame asks for (R151) -/

/-- A Window Stage gives its tour list eight entries, as its frame does (Table 5.3). -/
def FillsTour (c : Instr) : Prop := ∀ tag q, c = .windowStage tag q → q.entries.length = 8

theorem fillsTour_of_wellFormed (h : c.wellFormed = true) : FillsTour c := by
  rintro tag q rfl
  simp only [Instr.wellFormed, WindowStageFields.fits, Bool.and_eq_true, beq_iff_eq] at h
  obtain ⟨⟨⟨⟨⟨⟨-, entries⟩, -⟩, -⟩, -⟩, -⟩, -⟩ := h
  exact entries

/-- What is asked for is a request, with every entry of its tour list. -/
def Asked.Served : Asked → Prop
  | .refused _ => True
  | .command c => (requestFrame c).isSome = true ∧ FillsTour c

/-- The kinds whose arm is no plain row of Table 9.5 are Window Stage, whose tour list has eight entries, Scene Take and
Port Assign, whose TIMING may be refused, and those that no row lists. -/
theorem parsePayload_served (tag : Byte) (kind : Nat) (b : List Byte) : (parsePayload tag kind b).Served := by
  unfold parsePayload
  split
  case h_9 =>
    refine ⟨rfl, ?_⟩
    rintro _ _ ⟨⟩
    exact (List.length_map _).trans List.length_range
  case h_13 | h_16 =>
    split
    · exact ⟨rfl, nofun⟩
    · exact ⟨rfl, nofun⟩
    · trivial
  case h_25 => trivial
  all_goals exact ⟨rfl, nofun⟩

theorem askedOf_served (f : Frame) : (askedOf f).Served := by
  unfold askedOf
  split
  · trivial
  · split
    · exact parsePayload_served _ _ _
    · trivial

/-! #### Dispatch (R150, R151) -/

/-- Whatever the owner of a request does with it. -/
theorem keeps_handOver (hr : (requestFrame c).isSome = true) (hf : FillsTour c) (s : State) :
    Keeps 1 0 s (handOver c s) := by
  cases c with
  | inputSetup tag q => exact keeps_requestInputSetup tag q s
  | inputReset tag i => exact keeps_requestInputReset tag i s
  | inputQuery tag i clear => exact keeps_requestInputQuery tag i clear s
  | stillGrab tag i e => exact keeps_requestGrab tag i e s
  | stillDrop tag e => exact keeps_requestDrop tag e s
  | storeQuery tag v i => exact keeps_requestStoreQuery tag v i s
  | windowBind tag w k => exact keeps_requestBind tag w k s
  | windowUnbind tag w => exact keeps_requestUnbind tag w s
  | windowStage tag q => exact keeps_requestWindowStage tag (hf tag q rfl) s
  | windowFreeze tag w f => exact keeps_requestFreeze tag w f s
  | windowQuery tag w => exact keeps_requestWindowQuery tag w s
  | sceneStage tag q => exact keeps_requestSceneStage tag q s
  | sceneTakeFrame tag k => exact keeps_requestTakeFrame tag k s
  | sceneTakeNow tag k => exact keeps_requestTakeNow tag k s
  | sceneQuery tag k => exact keeps_requestSceneQuery tag k s
  | portSetup tag q => exact keeps_requestPortSetup tag q s
  | portAssignFrame tag n k => exact keeps_requestAssignFrame tag n k s
  | portAssignNow tag n k => exact keeps_requestAssignNow tag n k s
  | portHold tag n => exact keeps_requestHold tag n s
  | portResume tag n => exact keeps_requestResume tag n s
  | portQuery tag n => exact keeps_requestPortQuery tag n s
  | timingSetup tag r src i => exact keeps_requestTimingSetup tag r src i s
  | eventEnable tag es ms => exact keeps_requestEventEnable tag es ms s
  | eventAck tag e i => exact keeps_requestEventAck tag e i s
  | deviceQuery tag clear => exact keeps_requestDeviceQuery tag clear s
  | deviceReset tag => exact keeps_requestDeviceReset tag s
  | unknownKind tag kind q => exact keeps_answer tag kind .unknownKind s
  | _ => cases hr

theorem keeps_dispatchFrame (f : Frame) (s : State) : Keeps 1 0 (reservePlace s) (dispatchFrame f s) := by
  have served := askedOf_served f
  unfold dispatchFrame
  split <;> rename_i asked <;> rw [asked] at served
  · exact keeps_answer _ _ _ _
  · obtain ⟨request, tour⟩ := served
    exact keeps_handOver request tour _

/-- A frame leaves the head of the receive queue, which holds none during a Device Reset, and a place is reserved. -/
theorem keeps_dequeue {f : Frame} {rest : List Frame} (hq : s.link.queue = f :: rest) (hp : 0 < s.link.freePlaces) :
    Keeps 0 1 s (reservePlace (s.setLink { s.link with queue := rest })) := by
  refine ⟨fun h => ?_, fun h => h.of_banks rfl rfl⟩
  have bounded := h.link
  have serving : s.link.resetting = false := Bool.eq_false_iff.2 fun hr => by
    obtain ⟨empty, -⟩ := bounded.emptied hr
    rw [hq] at empty
    cases empty
  have popped : Booked 0 (s.setLink { s.link with queue := rest }) := by
    refine ⟨{ bounded with queue := ?_, emptied := fun hr => ?_ }, h.flags⟩
    · have := bounded.queue
      rw [hq, List.length_cons] at this
      exact Nat.le_of_succ_le this
    · rw [State.setLink_link, serving] at hr
      cases hr
  exact popped.reserve serving hp

theorem keeps_drain (n : Nat) : ∀ s, Keeps 0 0 s (drain n s) := by
  induction n with
  | zero => exact Keeps.refl
  | succ n ih =>
    intro s
    unfold drain
    split
    · exact .refl s
    · split
      · exact ((keeps_dequeue ‹_› ‹_›).trans (keeps_dispatchFrame _ _)).trans (ih _)
      · exact .refl s

theorem keeps_drainQueue (s : State) : Keeps 0 0 s (drainQueue s) := keeps_drain _ s

/-! #### Frames that arrive (R147 to R149) -/

theorem keeps_linkError (s : State) : Keeps 0 0 s (linkError s) := by
  have raised : ∀ s, Keeps 0 0 s (raise .linkError s) := fun s => .same rfl
  have counted : Keeps 0 0 s (s.setLink s.link.countError) := .onLink fun h =>
    have bounded := h.link
    ⟨{ bounded with errors := Nat.min_le_right _ _ }, h.flags⟩
  exact .ite (.refl s) (counted.trans (raised _))

theorem keeps_queueFrame (f : Frame) (s : State) : Keeps 0 0 s (queueFrame f s) := by
  unfold queueFrame
  split_ifs with hr hq
  · exact .refl s
  · refine .onLink fun h => ⟨{ h.link with queue := ?_, emptied := fun e => absurd e hr }, h.flags⟩
    rw [State.setLink_link, List.length_append]
    exact hq
  · exact keeps_linkError s

/-- The receiver and the gap timer are written. -/
theorem keeps_receiver (r : Receiver) (g : Option Ticks) (s : State) :
    Keeps n n s (s.setLink { s.link with receiver := r, gap := g }) :=
  .onLink fun h => have bounded := h.link; ⟨{ bounded with }, h.flags⟩

theorem keeps_discard (s : State) : Keeps 0 0 s (discard s) :=
  (keeps_receiver _ _ s).trans (keeps_linkError _)

theorem keeps_receive (b : Ticks) (x : Byte) (s : State) : Keeps 0 0 s (receive b x s) := by
  have into : ∀ r, Keeps 0 0 s (receiveInto b r s) := fun r => keeps_receiver r _ s
  unfold receive
  split
  · exact .ite (into _) (.refl s)
  · exact .ite (into _) (keeps_discard s)
  · exact into _
  · exact into _
  · exact .ite (((keeps_receiver _ _ s).trans (keeps_queueFrame _ _)).trans (keeps_drainQueue _)) (keeps_discard s)

/-- A request that arrives whole keeps the link bounded where its owner does. -/
theorem Booked.arrive {f : State → State} (hs : Booked 0 s) (c : Instr) (hf : ∀ u, Booked 1 u → Booked 0 (f u)) :
    Booked 0 (arrive c f s) := by
  unfold Machine.arrive
  split
  · rename_i ready
    simp only [Bool.and_eq_true, Bool.not_eq_true', decide_eq_true_eq] at ready
    obtain ⟨⟨serving, -⟩, free⟩ := ready
    exact hf _ (hs.reserve serving free)
  · split
    · exact (keeps_queueFrame _ s).link hs
    · exact hs

theorem keeps_arrive {f : State → State} (c : Instr) (hf : ∀ u, Keeps 1 0 u (f u)) (s : State) :
    Keeps 0 0 s (arrive c f s) := by
  refine ⟨fun hs => hs.arrive c fun u => (hf u).link, fun hs => ?_⟩
  unfold arrive
  split
  · exact (hf _).tables (hs.of_banks rfl rfl)
  · split
    · exact (keeps_queueFrame _ s).tables hs
    · exact hs

/-! #### The transmitter and the part-wide resets (R152, R156, R157) -/

theorem keeps_beginSending (s : State) : Keeps 0 0 s (beginSending s) := by
  unfold beginSending
  split
  · exact .refl s
  · rename_i r rest _ hq
    have taken : Keeps 0 0 s (s.setLink { s.link with replies := rest, sending := some (.reply r) }) := by
      refine .onLink fun h => ?_
      refine ⟨{ h.link with places := ?_ }, h.flags⟩
      have := h.link.places
      rw [hq, List.length_cons] at this
      exact Nat.le_of_succ_le this
    exact taken.trans (keeps_drainQueue _)
  · split
    · exact ⟨fun h => have bounded := h.link; ⟨{ bounded with }, h.flags⟩, fun h => h.of_banks rfl rfl⟩
    · exact .refl s

theorem keeps_resetPart (b : Ticks) (es : List Entry) (s u : State) : Keeps 0 0 u (resetPart b es s) :=
  ⟨fun _ => (linkBounded_iff.1 linkBounded_reset).of_booking rfl, fun _ => sceneTablesSound_reset.of_banks rfl rfl⟩

theorem keeps_finishSending (b : Ticks) (s : State) : Keeps 0 0 s (finishSending b s) := by
  have sent : ∀ u : State, Keeps 0 0 u (u.setLink { u.link with sending := none }) := fun _ =>
    .onLink fun h => have bounded := h.link; ⟨{ bounded with }, h.flags⟩
  exact .ite (keeps_resetPart _ _ _ s) (.ite ((keeps_reach b s).trans (sent _)) (.refl s))

/-! #### Events commanded alone (log entry 2) -/

/-- A transition of a window of a live list ends (R102, R103). -/
theorem offLink_endTransition (x : Shown) (hl : s.inLive w = true) :
    OffLink s (s.setWindow w { s.window w with shown := x, trans := .none }) := by
  refine .setWindow rfl fun h => ?_
  rw [hl]
  exact ⟨h.copies, transSound_none, nofun, fun _ => rfl, fun hb => absurd hb (bound_of_inLive hl)⟩

theorem keeps_takeAlone (k : Nat) {take : Nat × Nat} (h : s.pendingTakes.find? (·.1 == k) = some take) :
    Keeps 0 0 s (endWhere (·.isTakeOf k) .done (applyPendingTake s take)) := by
  have found : (take.1 == k) = true := List.find?_some (p := fun x : Nat × Nat => x.1 == k) h
  obtain rfl : take.1 = k := beq_iff_eq.1 found
  exact keeps_sceneTakeApply s take

/-! #### Every command -/

theorem exec_keeps (hf : FillsTour c) (h : exec c s = .next t) : Keeps 0 0 s t := by
  have idle : Keeps 0 0 s s := .refl s
  have kept : ∀ {f : State → State}, Keeps 0 0 s (f s) → whenRunning s f = .next t → Keeps 0 0 s t :=
    fun hf h => running_keeps idle hf h
  cases c with
  | inputSetup | inputReset | inputQuery | stillGrab | stillDrop | storeQuery | windowBind | windowUnbind | windowStage
  | windowFreeze | windowQuery | sceneStage | sceneTakeFrame | sceneTakeNow | sceneQuery | portSetup
  | portAssignFrame | portAssignNow | portHold | portResume | portQuery | timingSetup | eventEnable | eventAck
  | deviceQuery | deviceReset => exact kept (keeps_arrive _ (keeps_handOver rfl hf) s) h
  | unknownKind tag kind q =>
    simp only [exec, execUnknownKind] at h
    refine kept ?_ h
    exact (keeps_queueFrame _ s).trans (keeps_drainQueue _)
  | resetLineAssert =>
    injection h with h
    exact h ▸ .ite idle (keeps_resetPart _ _ _ s)
  | resetLineDeassert b =>
    injection h with h
    exact h ▸ .ite (keeps_resetPart _ _ _ s) idle
  | deviceResetExecute b => exact kept (.ite (keeps_resetPart _ _ _ s) idle) h
  | overrideAssert line | overrideDeassert line =>
    injection h with h
    exact h ▸ (OffLink.ite (offLink_setLine line _ s) (offLink_moveLine line _ s)).keeps
  | frameStart i b w l prog => exact kept (keeps_frameStart i b w l prog s) h
  | frameEnd i b flagged q => exact kept (keeps_frameEnd i b flagged q s) h
  | lossOfSignal i b => exact kept (keeps_frameEnd i b true [] s) h
  | missingFrameTimerExpiry i => exact kept (keeps_expireTimer i s) h
  | stillGrabComplete i b q => exact kept (.ite (keeps_frameEnd i b false q s) idle) h
  | grabTimeout i => exact kept (.ite (keeps_failGrab i .timeout s) idle) h
  | inputResetComplete i => exact kept (keeps_endWhere (fun _ _ => rfl) _ s) h
  | outputFrameBoundary =>
    simp only [exec, execOutputFrameBoundary] at h
    refine kept ?_ h
    split
    · exact keeps_takeBoundary _ s
    · exact idle
  | outputLineStart => exact kept (offLink_startLine s).keeps h
  | timingSetupApply =>
    simp only [exec, execTimingSetupApply] at h
    refine kept ?_ h
    split
    · exact (keeps_reach _ s).trans (offLink_settleStaged _).keeps
    all_goals exact idle
  | sceneTakeApply k =>
    simp only [exec, execSceneTakeApply] at h
    refine kept ?_ h
    split
    · exact keeps_takeAlone k ‹_›
    · exact idle
  | portAssignComplete n =>
    have assigned : ∀ x, Keeps 0 0 s (s.setPort n x) := fun x => .same rfl
    simp only [exec, execPortAssignComplete] at h
    refine kept ?_ h
    split
    · exact (assigned _).trans (keeps_endWhere (fun _ _ => rfl) _ _)
    · exact idle
  | freezeOrderOn w =>
    have carried := offLink_carryOutFreeze s w
    exact kept (OffLink.ite (.ite (carried.trans (offLink_pinWindow _ _ _)) carried) (.refl s)).keeps h
  | freezeOrderOff w => exact kept (.ite (offLink_carryOutFreeze s _).keeps idle) h
  | deadFramesEnd w | mixEnd w =>
    simp only [exec, execDeadFramesEnd, execMixEnd] at h
    refine kept ?_ h
    split
    · split
      · rename_i ends
        simp only [Bool.and_eq_true, Bool.not_eq_true'] at ends
        obtain ⟨⟨-, live⟩, -⟩ := ends
        exact (offLink_endTransition _ live).keeps
      · exact idle
    all_goals exact idle
  | tourExpiry w =>
    simp only [exec, execTourExpiry] at h
    refine kept ?_ h
    split
    · rename_i expires
      simp only [Bool.and_eq_true, Bool.not_eq_true'] at expires
      obtain ⟨⟨⟨live, unfrozen⟩, -⟩, -⟩ := expires
      exact (offLink_expireTour live unfrozen).keeps
    · exact idle
  | referencePulse b => exact kept (offLink_pulse b s).keeps h
  | referenceTimeout => exact kept (offLink_referenceLost s).keeps h
  | lockPointMidway i => exact kept (offLink_midway i s).keeps h
  | holdoverExpiry => exact kept (offLink_holdoverEnds s).keeps h
  | byteReceived b x =>
    simp only [exec, execByteReceived] at h
    refine kept ?_ h
    exact (keeps_reach b s).trans (keeps_receive b x _)
  | gapTimerExpiry =>
    simp only [exec, execGapTimerExpiry] at h
    refine kept ?_ h
    split
    · exact (keeps_reach _ s).trans (keeps_discard _)
    · exact idle
  | transmitStart => exact kept (keeps_beginSending s) h
  | transmitComplete b => exact kept (keeps_finishSending b s) h

/-- A Window Stage leaves the link alone but for its answer, whatever its fields (R84, R85). -/
theorem Booked.requestWindowStage (h : Booked 1 s) (tag : Byte) (q : WindowStageFields) :
    Booked 0 (requestWindowStage tag q s) := by
  unfold Machine.requestWindowStage
  split
  · exact h.replies _
  · have staged : ∀ x, Booked 1 (s.setWindow q.window x) := fun _ => h.of_booking rfl
    exact (staged _).replies _

/-- Every command keeps the link bounded, a Window Stage whose tour list is too short or too long too. -/
theorem exec_booked (hs : Booked 0 s) (h : exec c s = .next t) : Booked 0 t := by
  by_cases hf : FillsTour c
  · exact (exec_keeps hf h).link hs
  · simp only [FillsTour, not_forall] at hf
    obtain ⟨tag, q, rfl, -⟩ := hf
    exact running_keeps hs (hs.arrive _ fun _ hu => hu.requestWindowStage tag q) h

/-! #### Every step -/

/-- A step idles, or executes the command at the head of the queue. -/
theorem step_next (h : step s = .next t) :
    t = s ∨ ∃ c ∈ s.pending, ∃ rest, exec c { s with pending := rest } = .next t := by
  unfold step at h
  split at h
  · injection h with h
    exact .inl h.symm
  · rename_i c rest hp
    exact .inr ⟨c, hp ▸ List.mem_cons_self, rest, h⟩

/-- Settles O8: a step idles, or its command keeps the link bounded. -/
theorem linkStaysBounded : Obligations.LinkStaysBounded := by
  intro s t hs h
  rw [linkBounded_iff] at hs ⊢
  obtain rfl | ⟨c, -, rest, h⟩ := step_next h
  · exact hs
  · have popped : Booked 0 { s with pending := rest } := hs.of_booking rfl
    exact exec_booked popped h

/-- Settles O13: a step idles, or its command, which is well formed, keeps the scene tables sound. -/
theorem sceneTablesStaySound : Obligations.SceneTablesStaySound := by
  intro s t commanded hs h
  obtain rfl | ⟨c, mem, rest, h⟩ := step_next h
  · exact hs
  · exact (exec_keeps (fillsTour_of_wellFormed (commanded c mem)) h).tables (hs.of_banks rfl rfl)

end Sys2Proof.Machine
end
